-- ==== Sys2Proof/Word.lean ====
section
/-! DEFINITION. The byte of frames and of the raster memory. -/

namespace Sys2Proof

/-- A byte of a frame or of the attached raster memory. -/
abbrev Byte := BitVec 8

end Sys2Proof
end

