-- ==== Sys2Proof/Syntax.lean ====
section
/-! DEFINITION. The commands of the PL-840: one constructor of `Instr` per row of the opcode table, and the
requests of Table 10.7 that wait in the request queue. -/

namespace Sys2Proof

/-- The two drum imagers (00, section 3.8). -/
inductive Imager where
  | a | b
  deriving DecidableEq, Repr

/-- A value for each imager. -/
structure Pair (α : Type) where
  a : α
  b : α
  deriving DecidableEq, Repr

/-- A page key (00, section 3.4): edition, zone, section, page number, separation. -/
structure PageKey where
  edition : Nat
  zone : Nat
  sect : Nat
  page : Nat
  sep : Nat
  deriving DecidableEq, Repr

/-- A plate id (R26). -/
structure PlateId where
  line : Nat
  unit : Nat
  face : Nat
  across : Nat
  deriving DecidableEq, Repr

/-- One position of a MAP LOAD payload as received (Table 10.7); page number 0 of the key means BLANK. -/
structure PosArgs where
  key : PageKey
  rotation : Nat
  x0 : Nat
  y0 : Nat
  deriving DecidableEq, Repr

/-- The seven settings of IMAGER SET as received (Table 6.3). -/
structure SettingArgs where
  d : Nat
  pRev : Nat
  c : Nat
  mult : Nat
  tol : Nat
  g : Nat
  skipLimit : Nat
  deriving DecidableEq, Repr

/-- The nine sensors of the Line Tracker (Table 5.1, inputs 2..10). -/
inductive LineSensor where
  | exitA | exitB | tg | ps | lg | bs | og | ss | sd
  deriving DecidableEq, Repr

/-- The three stations (R133). -/
inductive Station where
  | punch | bend | sort
  deriving DecidableEq, Repr

/-- The two counted exits of the sort station (R176). -/
inductive ExitName where
  | reject | remake
  deriving DecidableEq, Repr

/-- A sample of the two phase lines of a drum encoder (R106). -/
structure Phase where
  p : Bool
  q : Bool
  deriving DecidableEq, Repr

/-- A request of Table 10.7 with its payload fields as received: numbers of the width of their fields, not
yet checked against their ranges (the owner refuses those). -/
inductive Request where
  | pageOpen (stream : Nat) (key : PageKey) (version width height retain : Nat)
  | pageAbandon (stream : Nat)
  | pageRelease (key : PageKey) (version : Nat)
  | mapLoad (id : PlateId) (size cls affinity : Nat) (positions : List PosArgs)
  | mapDelete (id : PlateId)
  | sizeLoad (code l x : Nat)
  | plateHold (id : PlateId)
  | plateRelease (id : PlateId)
  | lineHold (line : Nat)
  | lineRelease (line : Nat)
  | plateCancel (id : PlateId)
  | replate (form : Nat) (id : PlateId)
  | pressSet (press pattern profile : Nat) (fans : List Int)
  | lineAssign (line press : Nat)
  | patternLoad (pattern : Nat) (dies : List Nat)
  | profileLoad (profile lead tail : Nat)
  | cartLayout (cart units acrosses : Nat)
  | windowLoad (entry min max : Nat)
  | timingLoad (entry value : Nat)
  | sensorSet (input edge filter : Nat)
  | imagerSet (imager : Nat) (args : SettingArgs)
  | stockSet (imager size count : Nat)
  | imagerClear (imager : Nat)
  | lineStart
  | lineStop
  | lineResume (disposition : Nat)
  | reportMask (level : Nat)
  | queryPage (key : PageKey) (version : Nat)
  | queryPlate (id : PlateId)
  | queryImager (imager : Nat)
  | queryLine
  | queryStore
  | restart
  deriving DecidableEq, Repr

/-- A request of the request queue with the tag of its frame (R190). -/
structure TaggedRequest where
  tag : Nat
  request : Request
  deriving DecidableEq, Repr

/-- The commands: one constructor per row of `spec/opcode_table.json`. A request row carries the tag of its
frame and the fields of its payload. -/
inductive Instr where
  | powerOnReset (levels : BitVec 32) (phaseA phaseB : Phase)
  | downstreamFrame (bytes : List Byte)
  | transferEnd
  | completionNotice
  | receiveTimeout (stream : Nat)
  | pageOpen (tag stream : Nat) (key : PageKey) (version width height retain : Nat)
  | pageAbandon (tag stream : Nat)
  | pageRelease (tag : Nat) (key : PageKey) (version : Nat)
  | mapLoad (tag : Nat) (id : PlateId) (size cls affinity : Nat) (positions : List PosArgs)
  | mapDelete (tag : Nat) (id : PlateId)
  | sizeLoad (tag code l x : Nat)
  | plateHold (tag : Nat) (id : PlateId)
  | plateRelease (tag : Nat) (id : PlateId)
  | lineHold (tag line : Nat)
  | lineRelease (tag line : Nat)
  | plateCancel (tag : Nat) (id : PlateId)
  | replate (tag form : Nat) (id : PlateId)
  | pressSet (tag press pattern profile : Nat) (fans : List Int)
  | lineAssign (tag line press : Nat)
  | patternLoad (tag pattern : Nat) (dies : List Nat)
  | profileLoad (tag profile lead tail : Nat)
  | cartLayout (tag cart units acrosses : Nat)
  | windowLoad (tag entry min max : Nat)
  | timingLoad (tag entry value : Nat)
  | sensorSet (tag input edge filter : Nat)
  | imagerSet (tag imager : Nat) (args : SettingArgs)
  | stockSet (tag imager size count : Nat)
  | imagerClear (tag imager : Nat)
  | lineStart (tag : Nat)
  | lineStop (tag : Nat)
  | lineResume (tag disposition : Nat)
  | reportMask (tag level : Nat)
  | queryPage (tag : Nat) (key : PageKey) (version : Nat)
  | queryPlate (tag : Nat) (id : PlateId)
  | queryImager (tag imager : Nat)
  | queryLine (tag : Nat)
  | queryStore (tag : Nat)
  | restart (tag : Nat)
  | dispatch
  | clampArrival (i : Imager)
  | loadTimeout (i : Imager)
  | spinupTimeout (i : Imager)
  | index (i : Imager)
  | emissionEnd (i : Imager)
  | carriagePulseEnd (i : Imager)
  | periodSaturation (i : Imager)
  | mergeGrant
  | spacingExpiry
  | lineSensorArrival (sensor : LineSensor)
  | windowExpiry (sensor : LineSensor)
  | gateOpen (station : Station)
  | itemRelease (station : Station)
  | punchEntry
  | dieHomeArrival (die : Nat)
  | dieTimeout
  | bendEntry
  | bendDoneArrival
  | bendTimeout
  | sortEntry
  | cartAttach (cart : Nat)
  | cartDetach (cart : Nat)
  | exitEmptied (exit : ExitName)
  | upstreamFrameEnd
  | lineTimebaseTick
  | encoderTransition (i : Imager) (phase : Phase)
  | rawLevelChange (input : Nat) (level : Bool)
  | inactiveEdgeAcceptance (input : Nat)
  | resetAsserted
  deriving DecidableEq, Repr

end Sys2Proof
end

