-- ==== Sys2Proof/Decode.lean ====
section
/-! DEFINITION. The command that a word spells by the opcode table's bits. No row of the table gives bits (every
row's fields are empty), so no word spells a command (log 12). The frames by which the server spells its requests
are decoded in Machine/Frames.lean. -/

namespace Sys2Proof

/-- The command a word of `nbits` bits spells: none, since the opcode table gives no row any bits. -/
def decodeTableWord (_nbits _w : Nat) : Option Instr := none

end Sys2Proof
end

