-- ==== Sys2Proof/Config.lean ====
section
/-! DEFINITION. What the device fixes (the numbers the spec states for every PL-840), and the one free value. -/

namespace Sys2Proof.Config

/-- Reference ticks of the 48 MHz clock in one tick of the Line Timebase (R94). -/
def ticksPerMs : Nat := 48000
/-- The Line Timebase time counts modulo 2 to the power 32 (R94). -/
def timeModulus : Nat := 4294967296
/-- Page records of the Page Directory (R1). -/
def maxRecords : Nat := 256
/-- Cells of the raster store (00, Table 0.3; R3). -/
def cellCount : Nat := 32768
/-- Bytes of a cell (01, section 1.2). -/
def cellBytes : Nat := 131072
/-- Lines of a band (01, section 1.2). -/
def bandLines : Nat := 64
/-- Entries of the Imposition Map (R28). -/
def maxEntries : Nat := 192
/-- Entries that may contain one key (R30). -/
def maxEntriesPerKey : Nat := 8
/-- Records of the Plate Build Table (R34). -/
def maxBuilds : Nat := 32
/-- Requests of the request queue (R190). -/
def maxRequests : Nat := 8
/-- Replies of the reply list (R191). -/
def maxReplies : Nat := 16
/-- Event reports of the event queue (R195). -/
def maxReports : Nat := 64
/-- The position and period counters are 24-bit counts (R107, R108). -/
def counterModulus : Nat := 16777216
/-- The saturated value of the period counter and latch (R108). -/
def saturated : Nat := 16777215
/-- Reference ticks of a carriage step pulse (R102). -/
def stepPulse : Nat := 4800
/-- Valid revolutions that complete SPINUP (R116). -/
def spinupRuns : Nat := 4
/-- Capacity of the REJECT exit (R176). -/
def rejectCapacity : Nat := 40
/-- Capacity of the REMAKE chute (R176). -/
def remakeCapacity : Nat := 12
/-- Slots that a cart layout may have (R173). -/
def maxSlots : Nat := 96
/-- The limit of the 16-bit saturating counts and of elapsed counts (Table 6.5, Table 8.1, R135). -/
def count16 : Nat := 65535

/-- DESIGN CHOICE (log 9). Which of several reports of one level and one time is sent first: R197 lets them be
sent in either order. The n-th such choice of a run; nothing is known of it. -/
opaque freePick : Nat → Nat

end Sys2Proof.Config
end

