-- ==== Sys2Proof/Machine/State.lean ====
section
/-! DEFINITION. The state of the PL-840, block by block (Table 0.1), as plain data, and the state right after
power-on reset. -/

namespace Sys2Proof

/-- The value of imager `i`. -/
def Pair.get {α : Type} (p : Pair α) : Imager → α
  | .a => p.a
  | .b => p.b

/-- The pair with imager `i`'s value replaced. -/
def Pair.set {α : Type} (p : Pair α) (i : Imager) (x : α) : Pair α :=
  match i with
  | .a => { p with a := x }
  | .b => { p with b := x }

namespace Machine

/-! ### Pages and the raster store (chapter 1) -/

/-- R2. -/
inductive PageState where
  | receiving | current | superseded
  deriving DecidableEq, Repr

/-- A page record (Table 1.1). -/
structure PageRecord where
  key : PageKey
  version : Nat
  width : Nat
  height : Nat
  bands : Nat
  chain : List Nat
  state : PageState
  retain : Bool
  refs : Nat
  stream : Option Nat
  deriving DecidableEq, Repr

/-- R8. -/
inductive ContextState where
  | idle | receiving | completing
  deriving DecidableEq, Repr

/-- A receive context (Table 1.2). DESIGN CHOICE (log 30): next band is 0 in every IDLE context; R18 and R19 name only the
record and the deadline. -/
structure Context where
  state : ContextState := .idle
  record : Option (PageKey × Nat) := none
  nextBand : Nat := 0
  deadline : Option Nat := none
  deriving DecidableEq, Repr

/-- The band that the receive writer writes (R7): its record, the stream tag that fed it, its cell, the record's
width, the line to write next and the line data. -/
structure WriteJob where
  key : PageKey
  version : Nat
  stream : Nat
  cell : Nat
  width : Nat
  nextLine : Nat
  data : List Byte
  deriving DecidableEq, Repr

/-- The Receive Context Unit: 8 contexts and the receive writer. -/
structure Receive where
  contexts : List Context
  writer : Option WriteJob
  deriving DecidableEq, Repr

/-- The three requesters of the store port (R6). -/
inductive Requester where
  | receive | a | b
  deriving DecidableEq, Repr

/-- A granted transfer; `discarded` when the work of its requester has been abandoned (R6). -/
structure Transfer where
  by_ : Requester
  discarded : Bool
  deriving DecidableEq, Repr

/-- The store port arbiter (R6). -/
structure Port where
  busy : Option Transfer
  waitReceive : Bool
  waitA : Bool
  waitB : Bool
  last : Requester
  deriving DecidableEq, Repr

/-- An outstanding completion notice (R19, R20); superseded version 0 when there was none. -/
structure Notice where
  key : PageKey
  version : Nat
  superseded : Nat
  overtaken : Nat
  deriving DecidableEq, Repr

/-- The Raster Store Controller with the attached raster memory. -/
structure Store where
  directory : List PageRecord
  freeCells : Nat
  idleCells : List Nat
  port : Port
  notices : List Notice
  memory : List Host.Cell
  deriving DecidableEq, Repr

/-! ### Imposition and builds (chapter 2) -/

/-- L and X of a plate size (R27). -/
structure Size where
  l : Nat
  x : Nat
  deriving DecidableEq, Repr

/-- Affinity of a map entry (Table 2.1). -/
inductive Affinity where
  | any | a | b
  deriving DecidableEq, Repr

/-- A position of a map entry (Table 2.1); key none is BLANK. -/
structure Position where
  key : Option PageKey
  rotated : Bool
  x0 : Nat
  y0 : Nat
  imaged : Nat
  deriving DecidableEq, Repr

/-- An entry of the Imposition Map (Table 2.1). -/
structure MapEntry where
  id : PlateId
  size : Nat
  cls : Nat
  affinity : Affinity
  hold : Bool
  positions : List Position
  generation : Nat
  deriving DecidableEq, Repr

/-- R35. -/
inductive BuildState where
  | open_ | ready | assigned | exposing | exiting
  deriving DecidableEq, Repr

/-- Retire causes of builds and items (Tables 2.2 and 7.1). -/
inductive Cause where
  | none_ | superseded | cancelled | faulty | redirected | dieFault | bendFault
  deriving DecidableEq, Repr

/-- The binding of a position (Table 2.2). -/
inductive Binding where
  | bound (key : PageKey) (version : Nat)
  | waiting
  | blank
  deriving DecidableEq, Repr

/-- A build record in use (Table 2.2). -/
structure Build where
  bid : Nat
  plate : PlateId
  generation : Nat
  state : BuildState
  cause : Cause
  bindings : List Binding
  imager : Option Imager
  press : Option Nat
  fan : Option Int
  size : Option Size
  deriving DecidableEq, Repr

/-- The Plate Composer: the records of `builds` are those in use; a build id that none of them has is free. -/
structure Plates where
  sizes : List (Option Size)
  map : List MapEntry
  builds : List Build
  queue : List Nat
  pendingList : List PlateId
  deriving DecidableEq, Repr

/-! ### Exposure scheduling (chapter 3) -/

/-- An Imager Stock record (R62). -/
structure Stock where
  size : Nat
  count : Nat
  deriving DecidableEq, Repr

/-- The Exposure Scheduler. -/
structure Scheduler where
  lineHolds : List Bool
  assignment : List (Option Nat)
  stock : Pair Stock
  deriving DecidableEq, Repr

/-! ### Imager channels (chapters 4 and 6) -/

/-- A non-BLANK position of a composer's job (R85): the bound page record's width in units, height in bands and
cell chain, the placement, and the values computed at job start: W, H, T, V and the CLIPPED flag. -/
structure Placement where
  width : Nat
  chain : List Nat
  rotated : Bool
  x0 : Nat
  y0 : Nat
  w : Nat
  h : Nat
  t : Nat
  v : Nat
  clipped : Bool
  deriving DecidableEq, Repr

/-- A composer's job (R85); a BLANK position is none. -/
structure Job where
  l : Nat
  x : Nat
  fan : Int
  n : Nat
  positions : List (Option Placement)
  deriving DecidableEq, Repr

/-- R86. -/
inductive BufferState where
  | free | filling | full | emitting
  deriving DecidableEq, Repr

/-- A swath buffer (R86): `rows` holds one number for each beam, whose bit x is the beam value at plate pixel x. -/
structure Buffer where
  state : BufferState
  swath : Nat
  rows : List Nat
  deriving DecidableEq, Repr

/-- The fill in progress (Table 4.3): buffer number, swath, and the place of the next transfer as
beam × 4 + position. -/
structure Fill where
  buffer : Nat
  swath : Nat
  place : Nat
  deriving DecidableEq, Repr

/-- The Swath Composer (Table 4.3): ACTIVE while it holds a job. -/
structure Composer where
  job : Option Job
  nextFill : Nat
  nextEmit : Nat
  fill : Option Fill
  buf0 : Buffer
  buf1 : Buffer
  deriving DecidableEq, Repr

/-- Imager states (Table 6.4). -/
inductive ImagerState where
  | idle | loading | spinup | exposing | exitWait | unloading | fault
  deriving DecidableEq, Repr

/-- The revolution in progress (Table 6.5). -/
inductive Revolution where
  | writing (buffer : Nat)
  | skipped
  deriving DecidableEq, Repr

/-- R127. -/
inductive FaultCause where
  | loadTimeout | spinupTimeout | restartWithPlate
  deriving DecidableEq, Repr

/-- A fault record (Table 6.5); the plate with its generation is absent when the imager held no build. -/
structure FaultRecord where
  cause : FaultCause
  plate : Option (PlateId × Nat)
  left : ImagerState
  time : Nat
  deriving DecidableEq, Repr

/-- The Imager Sequencer (Table 6.5). -/
structure Sequencer where
  state : ImagerState
  build : Option Nat
  retired : Bool
  loadDeadline : Option Nat
  spinDeadline : Option Nat
  validRun : Nat
  revolution : Option Revolution
  emissionPending : Bool
  stepDue : Bool
  skipRun : Nat
  skipped : Nat
  steps : Nat
  written : Nat
  fault : Option FaultRecord
  deriving DecidableEq, Repr

/-- Imager settings with the computed E and W_t (Table 6.3, R110). -/
structure Settings where
  d : Nat
  pRev : Nat
  c : Nat
  mult : Nat
  tol : Nat
  g : Nat
  skipLimit : Nat
  e : Nat
  wt : Nat
  deriving DecidableEq, Repr

/-- Why a revolution is invalid (Table 6.2). -/
inductive Reason where
  | first | reverse | count | period
  deriving DecidableEq, Repr

/-- The Drum Timing Unit (R106 to R111); a last judgment of none is a valid revolution. -/
structure Drum where
  position : Nat
  period : Nat
  latch : Nat
  net : Nat
  reverse : Bool
  first : Bool
  judgment : Option Reason
  phase : Phase
  deriving DecidableEq, Repr

/-- The outputs of an imager (Table 5.3); `stepStart` is the reference tick at which the latest carriage step pulse
began. -/
structure ImagerOut where
  drumRun : Bool
  load : Bool
  eject : Bool
  step : Bool
  stepStart : Nat
  deriving DecidableEq, Repr

/-- An imager channel. -/
structure Channel where
  composer : Composer
  seq : Sequencer
  settings : Settings
  drum : Drum
  out : ImagerOut
  deriving DecidableEq, Repr

/-! ### Merge and line tracking (chapter 7) -/

/-- R131. -/
inductive LineState where
  | stopped | running | halted
  deriving DecidableEq, Repr

/-- The zones of the line (R133). -/
inductive Zone where
  | transfer | punch | link | bend | outfeed | sort
  deriving DecidableEq, Repr

/-- Where an item is within its zone (Table 7.1). -/
inductive Location where
  | merging | conveying | atGate | entering | inStation
  deriving DecidableEq, Repr

/-- Station work (Table 7.1). -/
inductive Work where
  | notStarted | working | done
  deriving DecidableEq, Repr

/-- Window kinds (Table 7.4). -/
inductive WindowKind where
  | exit | transferGate | linkGate | outfeedGate | punchEntry | bendEntry | sortEntry | deposit
  deriving DecidableEq, Repr

/-- A window (Table 7.1, R135). -/
structure Window where
  kind : WindowKind
  sensor : LineSensor
  start : Nat
  min : Nat
  max : Nat
  frozen : Bool
  deadline : Option Nat
  elapsed : Option Nat
  deriving DecidableEq, Repr

/-- A line item (Table 7.1); `entryTime` is the timestamp that the notice of its station entry carries, from the entry
until the station's controller takes the notice (R143). -/
structure Item where
  order : Nat
  plate : PlateId
  generation : Nat
  bindings : List Binding
  press : Nat
  cause : Cause
  zone : Zone
  location : Location
  source : Option Imager
  work : Option Work
  window : Option Window
  entryTime : Option Nat
  deriving DecidableEq, Repr

/-- Halt causes (Table 7.5). -/
inductive HaltCause where
  | missing | phantom | depositTimeout | dieTimeout | bendTimeout | exitFull | stop
  deriving DecidableEq, Repr

/-- The item of a halt with its place at the halt (R147, R156). -/
structure HaltItem where
  order : Nat
  plate : PlateId
  generation : Nat
  zone : Zone
  location : Location
  deriving DecidableEq, Repr

/-- The latest further cause of a halt record (R148); the sensor is an input number of Table 5.1. -/
structure FurtherHalt where
  cause : HaltCause
  item : Option HaltItem
  sensor : Option Nat
  deriving DecidableEq, Repr

/-- The halt record (R147, R148); the sensor is an input number of Table 5.1. -/
structure HaltRecord where
  cause : HaltCause
  item : Option HaltItem
  sensor : Option Nat
  exit : Option ExitName
  time : Nat
  count : Nat
  further : Option FurtherHalt
  deriving DecidableEq, Repr

/-- An entry of the Line Window Table (R134). -/
structure WindowEntry where
  min : Nat
  max : Nat
  deriving DecidableEq, Repr

/-- The Line Window Table (Table 7.3): the eight window kinds in the table's order, and the merge spacing. -/
structure WindowTable where
  kinds : List WindowEntry
  spacing : Nat
  deriving DecidableEq, Repr

/-- An exit request (R136). -/
structure ExitRequest where
  imager : Imager
  cls : Nat
  deriving DecidableEq, Repr

/-- The Merge Arbiter (R136): exit requests in the order taken; `spacingOver` when the spacing deadline has been
reached (log 21). -/
structure Merge where
  requests : List ExitRequest
  lastGrant : Option Nat
  deadline : Option Nat
  spacingOver : Bool
  deriving DecidableEq, Repr

/-- The outputs of the Line Tracker (Table 5.3). -/
structure LineOut where
  convTransfer : Bool
  convLink : Bool
  convOutfeed : Bool
  gatePunch : Bool
  gateBend : Bool
  gateSort : Bool
  deriving DecidableEq, Repr

/-- The Line Tracker with the Merge Arbiter. A zone (R133) is the items of the list with that zone, in list order. -/
structure Line where
  state : LineState
  items : List Item
  counter : Nat
  halt : Option HaltRecord
  table : WindowTable
  merge : Merge
  out : LineOut
  deriving DecidableEq, Repr

/-! ### Punching and bending (chapter 8) -/

/-- A Press Table entry (R157). -/
structure Press where
  pattern : Nat
  profile : Nat
  fans : List Int
  deriving DecidableEq, Repr

/-- R160. -/
inductive PunchState where
  | idle | stroking | paused
  deriving DecidableEq, Repr

/-- The Punch Controller with its tables (Table 8.1) and the die outputs. DESIGN CHOICE (log 35): the next die place, for
which Table 8.1 gives no absent value, is 0 in IDLE. -/
structure Punch where
  presses : List (Option Press)
  patterns : List (Option (List Nat))
  state : PunchState
  item : Option Nat
  pattern : Option (List Nat)
  nextDie : Nat
  die : Option Nat
  start : Option Nat
  deadline : Option Nat
  halted : Bool
  strays : Nat
  dies : List Bool
  deriving DecidableEq, Repr

/-- A bend profile (R159). -/
structure Profile where
  lead : Bool
  tail : Bool
  deriving DecidableEq, Repr

/-- R167. -/
inductive BendState where
  | idle | bending | paused
  deriving DecidableEq, Repr

/-- The two bends. -/
inductive BendKind where
  | lead | tail
  deriving DecidableEq, Repr

/-- The Bend Controller with its table (Table 8.2) and outputs. -/
structure Bend where
  profiles : List (Option Profile)
  state : BendState
  item : Option Nat
  profile : Option Profile
  bend : Option BendKind
  start : Option Nat
  deadline : Option Nat
  halted : Bool
  strays : Nat
  outLead : Bool
  outTail : Bool
  deriving DecidableEq, Repr

/-! ### Sorting (chapter 9) -/

/-- A cart layout (R172). -/
structure Layout where
  units : Nat
  acrosses : Nat
  deriving DecidableEq, Repr

/-- A cart record (R172); the occupancy set is a strictly rising list. -/
structure Cart where
  layout : Option Layout
  present : Bool
  occupancy : List Nat
  deriving DecidableEq, Repr

/-- R177. -/
inductive SortState where
  | idle | depositing | blocked
  deriving DecidableEq, Repr

/-- A destination (Table 9.2). -/
inductive Destination where
  | cart (n slot : Nat)
  | reject
  | remake
  deriving DecidableEq, Repr

/-- Divert reasons (Table 9.2). -/
inductive Divert where
  | cartAbsent | noSlot | slotOccupied
  deriving DecidableEq, Repr

/-- The Sorter Controller (R172, R176, Table 9.2) with SORT_EXIT. `retiredHere` is the model's own (log 29): a decision of
this station retired the item in it REDIRECTED, which R183 reports and which outlives the clearing of R180. -/
structure Sorter where
  carts : List Cart
  rejects : Nat
  remakes : Nat
  state : SortState
  item : Option Nat
  destination : Option Destination
  divert : Option Divert
  redirected : Bool
  retiredHere : Bool
  exitCode : Nat
  deriving DecidableEq, Repr

/-! ### Sensors and the timebase (chapter 5) -/

/-- A pending change (Table 5.2): its start, and the first sample at which it may be accepted (after a SENSOR SET,
R100 step 3); both are reference ticks. -/
structure PendingChange where
  start : Nat
  notBefore : Nat
  deriving DecidableEq, Repr

/-- A sensor input record (Table 5.2) with the raw level of the latest sample (R96); a level is true for high. -/
structure Input where
  rising : Bool
  filter : Nat
  filtered : Bool
  raw : Bool
  change : Option PendingChange
  deriving DecidableEq, Repr

/-- The Line Timebase time in ms (R94) and the reference ticks since the release of reset. -/
structure Clock where
  time : Nat
  ref : Nat
  deriving DecidableEq, Repr

/-! ### The Page Link and the Report Unit (chapter 10) -/

/-- Completion codes (Table 10.6). -/
inductive Code where
  | ok | busy | range | full | noSpace | stale | inUse | notFound | badState | unknown | limit
  deriving DecidableEq, Repr

/-- A reply ready to be sent (R191, Table 10.4). -/
structure Reply where
  tag : Nat
  kind : Nat
  code : Code
  result : List Byte
  deriving DecidableEq, Repr

/-- A band frame in the holding place (R189): its tag and payload. -/
structure BandFrame where
  tag : Nat
  payload : List Byte
  deriving DecidableEq, Repr

/-- Causes of a drop (R18). -/
inductive DropCause where
  | gap | length | timeout | abandoned | overtaken
  deriving DecidableEq, Repr

/-- PAGE DONE content (Table 1.5). -/
structure PageDone where
  key : PageKey
  version : Nat
  width : Nat
  height : Nat
  bound : Nat
  superseded : Nat
  overtaken : Nat
  kept : Bool
  deriving DecidableEq, Repr

/-- PAGE DROPPED content (Table 1.4). -/
structure PageDropped where
  key : PageKey
  version : Nat
  stream : Nat
  cause : DropCause
  bands : Nat
  height : Nat
  offending : Option Nat
  overtaking : Nat
  deriving DecidableEq, Repr

/-- End kinds of an exposure (R124). -/
inductive EndKind where
  | complete | skipLimit | truncated | stopped | stalled
  deriving DecidableEq, Repr

/-- PLATE EXPOSED content (Table 6.6); the residual fields follow from the swath count and the swaths written. -/
structure PlateExposed where
  plate : PlateId
  generation : Nat
  imager : Imager
  kind : EndKind
  cause : Cause
  count : Nat
  written : Nat
  skipped : Nat
  clipped : List Bool
  time : Nat
  deriving DecidableEq, Repr

/-- PLATE DELIVERED content (Table 9.3). -/
structure PlateDelivered where
  plate : PlateId
  generation : Nat
  order : Nat
  press : Nat
  destination : Destination
  marked : Bool
  divert : Option Divert
  remakes : Nat
  positions : List Binding
  time : Nat
  deriving DecidableEq, Repr

/-- PLATE REJECTED content (Table 9.4). -/
structure PlateRejected where
  plate : PlateId
  generation : Nat
  order : Nat
  press : Nat
  cause : Cause
  redirected : Bool
  rejects : Nat
  time : Nat
  deriving DecidableEq, Repr

/-- The content of an event report (R195). -/
inductive EventBody where
  | pageDone (c : PageDone)
  | plateExposed (c : PlateExposed)
  | plateDelivered (c : PlateDelivered)
  | pageDropped (c : PageDropped)
  | plateRejected (c : PlateRejected)
  deriving DecidableEq, Repr

/-- An event report with the time of its offer (R195). -/
structure EventReport where
  body : EventBody
  time : Nat
  deriving DecidableEq, Repr

/-- LINE condition content (R156): the halt record with the line state. -/
structure LineContent where
  halt : HaltRecord
  state : LineState
  deriving DecidableEq, Repr

/-- STOCK condition content (Table 3.1). -/
structure StockContent where
  imager : Imager
  size : Nat
  plate : PlateId
  generation : Nat
  waiting : Nat
  deriving DecidableEq, Repr

/-- LINK causes (Table 10.8). -/
inductive LinkCause where
  | badFrame | badCheck | orphanBand | bandOverrun | replyDropped
  deriving DecidableEq, Repr

/-- LINK condition content (Table 10.8). -/
structure LinkContent where
  cause : LinkCause
  kind : Nat
  tag : Nat
  band : Option Nat
  time : Nat
  deriving DecidableEq, Repr

/-- OVERFLOW condition content (R195): type and level of the discarded report, and the time of the discard. -/
structure OverflowContent where
  type : Nat
  level : Nat
  time : Nat
  deriving DecidableEq, Repr

/-- The content of a condition (R196). -/
inductive ConditionBody where
  | line (c : LineContent)
  | imager (c : FaultRecord)
  | stock (c : StockContent)
  | link (c : LinkContent)
  | overflow (c : OverflowContent)
  deriving DecidableEq, Repr

/-- The seven condition sources (R196), in the order of the slots. -/
inductive Source where
  | line | imagerA | imagerB | stockA | stockB | link | overflow
  deriving DecidableEq, Repr

/-- A pending condition (R196): content, repeat count, pending-since time, time of the latest raise. -/
structure Condition where
  body : ConditionBody
  repeats : Nat
  since : Nat
  latest : Nat
  deriving DecidableEq, Repr

/-- The seven condition slots (R196); none is an empty slot. -/
structure Slots where
  line : Option Condition
  imagerA : Option Condition
  imagerB : Option Condition
  stockA : Option Condition
  stockB : Option Condition
  link : Option Condition
  overflow : Option Condition
  deriving DecidableEq, Repr

/-- The Report Unit (R195 to R197). -/
structure Reports where
  events : List EventReport
  slots : Slots
  mask : Nat
  seq : Nat
  deriving DecidableEq, Repr

/-- An upstream frame being sent (R186, R197): kind, tag and payload. Its header, length and check follow from
these (`UpFrame.bytes`). -/
structure UpFrame where
  kind : Nat
  tag : Nat
  payload : List Byte
  deriving DecidableEq, Repr

/-- The Timing Table (R192). -/
structure Timing where
  receive : Nat
  load : Nat
  spinup : Nat
  die : Nat
  bend : Nat
  deriving DecidableEq, Repr

/-- The Page Link Port (R188 to R192). -/
structure Link where
  requests : List TaggedRequest
  replies : List Reply
  holding : Option BandFrame
  lane : Option UpFrame
  timing : Timing
  deriving DecidableEq, Repr

/-! ### The machine -/

/-- The whole state of the PL-840, with the model's queue of waiting commands. `passOwed` is the model's own (log 5): an
event of R66 has been taken and its dispatch pass is still to be made; it is set only within a step. -/
structure State where
  pending : List Instr
  resetAsserted : Bool
  freeCount : Nat
  passOwed : Bool
  clock : Clock
  link : Link
  rx : Receive
  store : Store
  plates : Plates
  sched : Scheduler
  chan : Pair Channel
  line : Line
  punch : Punch
  bend : Bend
  sorter : Sorter
  inputs : List Input
  reports : Reports
  deriving DecidableEq, Repr

/-- The reasons for which the model stops. -/
inductive Fault where
  /-- Raised by TRANSFER_END when the granted transfer would touch bytes outside its cell or outside the attached
  raster memory (log 22). Safe: no state that a run reaches holds such a transfer. -/
  | outsideRasterStore
  deriving DecidableEq, Repr

/-- The reasons for which the model gives a command no meaning. -/
inductive Refusal where
  /-- Raised by an arm of `exec` whose command has no meaning yet. Safe: nothing can be proved of its effect. -/
  | notModelled (mnemonic : String)
  deriving DecidableEq, Repr

/-! ### After power-on reset -/

/-- R24. -/
def Receive.reset : Receive := { contexts := List.replicate 8 {}, writer := none }

/-- R24; the memory lists nothing (log 11). -/
def Store.reset : Store :=
  { directory := [], freeCells := 32768, idleCells := List.range 32768,
    port := { busy := none, waitReceive := false, waitA := false, waitB := false, last := .b },
    notices := [], memory := [] }

/-- R55. -/
def Plates.reset : Plates :=
  { sizes := List.replicate 4 none, map := [], builds := [], queue := [], pendingList := [] }

/-- R72. -/
def Scheduler.reset : Scheduler :=
  { lineHolds := List.replicate 8 false, assignment := List.replicate 8 none, stock := ⟨⟨0, 0⟩, ⟨0, 0⟩⟩ }

/-- A swath buffer after reset (R93); its contents are not defined there: no beam on (log 10). -/
def Buffer.reset : Buffer := { state := .free, swath := 0, rows := [] }

/-- R93. -/
def Composer.reset : Composer :=
  { job := none, nextFill := 0, nextEmit := 0, fill := none, buf0 := Buffer.reset, buf1 := Buffer.reset }

/-- R129. -/
def Sequencer.reset : Sequencer :=
  { state := .idle, build := none, retired := false, loadDeadline := none, spinDeadline := none, validRun := 0,
    revolution := none, emissionPending := false, stepDue := false, skipRun := 0, skipped := 0, steps := 0,
    written := 0, fault := none }

/-- R112, Table 6.3. -/
def Settings.reset : Settings :=
  { d := 39, pRev := 36000, c := 36000, mult := 4, tol := 4, g := 2000, skipLimit := 3, e := 2880000, wt := 2812 }

/-- R129, with the phase lines as sampled first. -/
def Drum.reset (phase : Phase) : Drum :=
  { position := 0, period := 0, latch := 0, net := 0, reverse := false, first := true, judgment := some .first,
    phase := phase }

/-- R104, R129: every output RELEASED. -/
def ImagerOut.released : ImagerOut :=
  { drumRun := false, load := false, eject := false, step := false, stepStart := 0 }

/-- A channel after reset (R93, R129). -/
def Channel.reset (phase : Phase) : Channel :=
  { composer := Composer.reset, seq := Sequencer.reset, settings := Settings.reset, drum := Drum.reset phase,
    out := ImagerOut.released }

/-- Table 7.3, after power-on reset. -/
def WindowTable.reset : WindowTable :=
  { kinds := [⟨100, 3000⟩, ⟨800, 8000⟩, ⟨400, 5000⟩, ⟨400, 5000⟩, ⟨100, 2000⟩, ⟨100, 2000⟩, ⟨100, 2000⟩, ⟨100, 1500⟩],
    spacing := 4000 }

/-- Every conveyor and gate output RELEASED. -/
def LineOut.released : LineOut :=
  { convTransfer := false, convLink := false, convOutfeed := false, gatePunch := false, gateBend := false,
    gateSort := false }

/-- R154. -/
def Line.reset : Line :=
  { state := .stopped, items := [], counter := 0, halt := none, table := WindowTable.reset,
    merge := { requests := [], lastGrant := none, deadline := none, spacingOver := false }, out := LineOut.released }

/-- R157, R158, R160; the next die place is 0 (DESIGN CHOICE, log 35). -/
def Punch.reset : Punch :=
  { presses := List.replicate 6 none, patterns := List.replicate 16 none, state := .idle, item := none,
    pattern := none, nextDie := 0, die := none, start := none, deadline := none, halted := false, strays := 0,
    dies := List.replicate 12 false }

/-- R159, R167. -/
def Bend.reset : Bend :=
  { profiles := List.replicate 8 none, state := .idle, item := none, profile := none, bend := none, start := none,
    deadline := none, halted := false, strays := 0, outLead := false, outTail := false }

/-- R172: no layout, ABSENT, nothing in it. -/
def Cart.reset : Cart := { layout := none, present := false, occupancy := [] }

/-- R172, R176, R177; SORT_EXIT holds code 6 (R104). DESIGN CHOICE (log 40): redirected here is clear in IDLE. -/
def Sorter.reset : Sorter :=
  { carts := List.replicate 6 Cart.reset, rejects := 0, remakes := 0, state := .idle, item := none,
    destination := none, divert := none, redirected := false, retiredHere := false, exitCode := 6 }

/-- R104: RISING, 2 ms, the filtered level is the raw level of the first sample. -/
def Input.reset (level : Bool) : Input :=
  { rising := true, filter := 2, filtered := level, raw := level, change := none }

/-- R199. -/
def Reports.reset : Reports :=
  { events := [], slots := ⟨none, none, none, none, none, none, none⟩, mask := 0, seq := 0 }

/-- R192, after power-on reset. -/
def Timing.reset : Timing := { receive := 5000, load := 8000, spinup := 10000, die := 1000, bend := 4000 }

/-- R199. -/
def Link.reset : Link := { requests := [], replies := [], holding := none, lane := none, timing := Timing.reset }

/-- The machine at the release of power-on reset, when the first sample shows the input levels `levels` (bit n for
input n) and the encoder phases given, before the attach events of R99. -/
def State.released (levels : BitVec 32) (phaseA phaseB : Phase) : State :=
  { pending := [], resetAsserted := false, freeCount := 0, passOwed := false, clock := { time := 0, ref := 0 },
    link := Link.reset, rx := Receive.reset, store := Store.reset, plates := Plates.reset, sched := Scheduler.reset,
    chan := ⟨Channel.reset phaseA, Channel.reset phaseB⟩, line := Line.reset, punch := Punch.reset,
    bend := Bend.reset, sorter := Sorter.reset,
    inputs := (List.range 32).map (fun n => Input.reset (levels.getLsbD n)), reports := Reports.reset }

/-- The machine right after power-on reset. DESIGN CHOICE (log 10): every sensor input and encoder phase is low at
the first sample; with edge select RISING no cart is then at its active level, so no attach event results. -/
def State.reset : State := State.released 0 ⟨false, false⟩ ⟨false, false⟩

end Machine

end Sys2Proof
end

