-- ==== Sys2Proof/Machine/Operands.lean ====
section
/-! DEFINITION. The operand forms of the requests: the ranges of their fields, the codes of named values, and the
payloads of Tables 10.2, 10.3, 10.5 and 10.7 read into requests. -/

namespace Sys2Proof.Machine

/-! ### Ranges -/

/-- Table 1.1: edition, zone, section 0..15, page number 1..255, separation 0..3. -/
def keyOk (k : PageKey) : Bool :=
  decide (k.edition ≤ 15) && decide (k.zone ≤ 15) && decide (k.sect ≤ 15) && decide (1 ≤ k.page) &&
    decide (k.page ≤ 255) && decide (k.sep ≤ 3)

/-- Table 1.1: version 1..255. -/
def versionOk (v : Nat) : Bool := decide (1 ≤ v) && decide (v ≤ 255)

/-- R26: logical line 0..7, unit 0..11, face 0..1, across 0..3. -/
def plateOk (p : PlateId) : Bool :=
  decide (p.line ≤ 7) && decide (p.unit ≤ 11) && decide (p.face ≤ 1) && decide (p.across ≤ 3)

/-- Plate id order (R26): ascending logical line, unit, face, across. -/
def plateBefore (p q : PlateId) : Bool :=
  decide (p.line < q.line) ||
    (decide (p.line = q.line) &&
      (decide (p.unit < q.unit) ||
        (decide (p.unit = q.unit) &&
          (decide (p.face < q.face) || (decide (p.face = q.face) && decide (p.across < q.across))))))

/-- R157: a fan-out value, -2000..+2000 ppm. -/
def fanOk (f : Int) : Bool := decide (-2000 ≤ f) && decide (f ≤ 2000)

/-- The imager coded in a request: A is 0, B is 1 (Table 10.5). -/
def imagerOf : Nat → Option Imager
  | 0 => some .a
  | 1 => some .b
  | _ => none

/-- The affinity coded in MAP LOAD, in the order of Table 2.1. -/
def affinityOf : Nat → Option Affinity
  | 0 => some .any
  | 1 => some .a
  | 2 => some .b
  | _ => none

/-- A flag, coded 0 for clear or off and 1 for set or on (Table 10.2; DEDUCED for the flags of PROFILE LOAD, log 15). -/
def flagOf : Nat → Option Bool
  | 0 => some false
  | 1 => some true
  | _ => none

/-- A value of two names, the first coded 0 and the second 1 (Table 10.5): true for the first. Used for RISING or
FALLING and for KEEP or REMOVE. -/
def firstOf : Nat → Option Bool
  | 0 => some true
  | 1 => some false
  | _ => none

/-! ### Bytes -/

/-- The number that bytes spell, most significant byte first (R186). -/
def natOfBytes (bs : List Byte) : Nat := bs.foldl (fun n b => n * 256 + b.toNat) 0

/-- The `n` bytes at offset `off` as a number. -/
def field (bs : List Byte) (off n : Nat) : Nat := natOfBytes ((bs.drop off).take n)

/-- A two-byte two's complement field (Table 10.5, fan-out). -/
def signedField (bs : List Byte) (off : Nat) : Int :=
  if field bs off 2 < 32768 then (field bs off 2 : Int) else (field bs off 2 : Int) - 65536

/-- A page key field (Table 10.5). -/
def keyField (bs : List Byte) (off : Nat) : PageKey :=
  ⟨field bs off 1, field bs (off + 1) 1, field bs (off + 2) 1, field bs (off + 3) 1, field bs (off + 4) 1⟩

/-- A plate id field (Table 10.5). -/
def plateField (bs : List Byte) (off : Nat) : PlateId :=
  ⟨field bs off 1, field bs (off + 1) 1, field bs (off + 2) 1, field bs (off + 3) 1⟩

/-- A position of MAP LOAD: key, rotation, x0, y0 (Table 10.7). -/
def posField (bs : List Byte) (off : Nat) : PosArgs :=
  ⟨keyField bs off, field bs (off + 5) 1, field bs (off + 6) 2, field bs (off + 8) 2⟩

/-- The settings of IMAGER SET after the imager byte (Table 10.7). -/
def settingsField (bs : List Byte) (off : Nat) : SettingArgs :=
  ⟨field bs off 2, field bs (off + 2) 2, field bs (off + 4) 4, field bs (off + 8) 1, field bs (off + 9) 1,
    field bs (off + 10) 2, field bs (off + 12) 1⟩

/-! ### Payload lengths and payloads (Table 10.7) -/

/-- The payload length that Table 10.7 gives a request kind, taking the count or subject byte into account; none for
a QUERY of a subject outside 0..4, and for a payload too short to hold the byte that decides. -/
def payloadLength (kind : Nat) (bs : List Byte) : Option Nat :=
  match kind with
  | 16 => some 11
  | 17 => some 1
  | 18 => some 6
  | 19 => if 8 ≤ bs.length then some (8 + 10 * field bs 7 1) else none
  | 20 => some 4
  | 21 => some 5
  | 22 => some 4
  | 23 => some 4
  | 24 => some 1
  | 25 => some 1
  | 26 => some 4
  | 27 => some 5
  | 28 => some 11
  | 29 => some 2
  | 30 => if 2 ≤ bs.length then some (2 + field bs 1 1) else none
  | 31 => some 3
  | 32 => some 3
  | 33 => some 5
  | 34 => some 3
  | 35 => some 3
  | 36 => some 14
  | 37 => some 3
  | 38 => some 1
  | 39 => some 0
  | 40 => some 0
  | 41 => some 1
  | 42 => some 1
  | 43 =>
    match field bs 0 1, bs with
    | _, [] => none
    | 0, _ => some 7
    | 1, _ => some 5
    | 2, _ => some 2
    | 3, _ => some 1
    | 4, _ => some 1
    | _, _ => none
  | 44 => some 0
  | _ => none

/-- The kinds of Table 10.7. -/
def knownKind (kind : Nat) : Bool := decide (16 ≤ kind) && decide (kind ≤ 44)

/-- The request that a payload of the right length spells (Tables 10.2, 10.5, 10.7). In the line form of REPLATE only
the logical line byte is read. -/
def requestOf (kind : Nat) (bs : List Byte) : Request :=
  match kind with
  | 16 => .pageOpen (field bs 0 1) (keyField bs 1) (field bs 6 1) (field bs 7 1) (field bs 8 2) (field bs 10 1)
  | 17 => .pageAbandon (field bs 0 1)
  | 18 => .pageRelease (keyField bs 0) (field bs 5 1)
  | 19 => .mapLoad (plateField bs 0) (field bs 4 1) (field bs 5 1) (field bs 6 1)
      ((List.range (field bs 7 1)).map (fun p => posField bs (8 + 10 * p)))
  | 20 => .mapDelete (plateField bs 0)
  | 21 => .sizeLoad (field bs 0 1) (field bs 1 2) (field bs 3 2)
  | 22 => .plateHold (plateField bs 0)
  | 23 => .plateRelease (plateField bs 0)
  | 24 => .lineHold (field bs 0 1)
  | 25 => .lineRelease (field bs 0 1)
  | 26 => .plateCancel (plateField bs 0)
  | 27 => .replate (field bs 0 1) (plateField bs 1)
  | 28 => .pressSet (field bs 0 1) (field bs 1 1) (field bs 2 1)
      [signedField bs 3, signedField bs 5, signedField bs 7, signedField bs 9]
  | 29 => .lineAssign (field bs 0 1) (field bs 1 1)
  | 30 => .patternLoad (field bs 0 1) ((bs.drop 2).map BitVec.toNat)
  | 31 => .profileLoad (field bs 0 1) (field bs 1 1) (field bs 2 1)
  | 32 => .cartLayout (field bs 0 1) (field bs 1 1) (field bs 2 1)
  | 33 => .windowLoad (field bs 0 1) (field bs 1 2) (field bs 3 2)
  | 34 => .timingLoad (field bs 0 1) (field bs 1 2)
  | 35 => .sensorSet (field bs 0 1) (field bs 1 1) (field bs 2 1)
  | 36 => .imagerSet (field bs 0 1) (settingsField bs 1)
  | 37 => .stockSet (field bs 0 1) (field bs 1 1) (field bs 2 1)
  | 38 => .imagerClear (field bs 0 1)
  | 39 => .lineStart
  | 40 => .lineStop
  | 41 => .lineResume (field bs 0 1)
  | 42 => .reportMask (field bs 0 1)
  | 43 =>
    match field bs 0 1 with
    | 0 => .queryPage (keyField bs 1) (field bs 6 1)
    | 1 => .queryPlate (plateField bs 1)
    | 2 => .queryImager (field bs 1 1)
    | 3 => .queryLine
    | _ => .queryStore
  | _ => .restart

/-- The kind of a request (Table 10.7). -/
def kindOf : Request → Nat
  | .pageOpen _ _ _ _ _ _ => 16
  | .pageAbandon _ => 17
  | .pageRelease _ _ => 18
  | .mapLoad _ _ _ _ _ => 19
  | .mapDelete _ => 20
  | .sizeLoad _ _ _ => 21
  | .plateHold _ => 22
  | .plateRelease _ => 23
  | .lineHold _ => 24
  | .lineRelease _ => 25
  | .plateCancel _ => 26
  | .replate _ _ => 27
  | .pressSet _ _ _ _ => 28
  | .lineAssign _ _ => 29
  | .patternLoad _ _ => 30
  | .profileLoad _ _ _ => 31
  | .cartLayout _ _ _ => 32
  | .windowLoad _ _ _ => 33
  | .timingLoad _ _ => 34
  | .sensorSet _ _ _ => 35
  | .imagerSet _ _ => 36
  | .stockSet _ _ _ => 37
  | .imagerClear _ => 38
  | .lineStart => 39
  | .lineStop => 40
  | .lineResume _ => 41
  | .reportMask _ => 42
  | .queryPage _ _ => 43
  | .queryPlate _ => 43
  | .queryImager _ => 43
  | .queryLine => 43
  | .queryStore => 43
  | .restart => 44

end Sys2Proof.Machine
end

