-- ==== Sys2Proof/Machine/Ops.lean ====
section
/-! DEFINITION. The named operations that several blocks share: times and deadlines, the raster memory, the store
port, and the offers, raises and replies of the Report Unit and the Page Link Port. -/

namespace Sys2Proof.Machine

/-! ### Times (R94, R95) -/

/-- The deadline `d` ms after the time `t` (R95). -/
def deadlineAfter (t d : Nat) : Nat := (t + d) % Config.timeModulus

/-- The ms from the time `t0` to the time `t1`, modulo 2 to the power 32 (R94). -/
def elapsed (t1 t0 : Nat) : Nat := (t1 + Config.timeModulus - t0) % Config.timeModulus

/-- The time `t1` does not lie before `t0` (R94). DEDUCED (log 20): no span the device measures comes near half of
the count's range, so a difference below half of it is a time not before. -/
def notBefore (t1 t0 : Nat) : Bool := decide (elapsed t1 t0 < Config.timeModulus / 2)

/-- The deadline, if there is one, has been reached at the time `now` (R95). -/
def dueAt (now : Nat) : Option Nat → Bool
  | none => false
  | some d => notBefore now d

/-- Ms left from `now` to a deadline; 0 when it has been reached. -/
def timeLeft (now d : Nat) : Nat := if notBefore now d then 0 else elapsed d now

/-- The Line Timebase time now (R94). -/
def State.now (s : State) : Nat := s.clock.time

/-- A 16-bit count increased by 1, saturating (Table 6.5, Table 8.1). -/
def saturate16 (n : Nat) : Nat := if n < Config.count16 then n + 1 else n

/-- The period counter after `n` more reference ticks (R108). -/
def periodAfter (p n : Nat) : Nat := min (p + n) Config.saturated

/-- `n` reference ticks pass: both period counters count them (R108). -/
def Drum.advance (n : Nat) (d : Drum) : Drum := { d with period := periodAfter d.period n }

/-! ### The attached raster memory (01, section 1.2) -/

/-- What the raster memory reads as at address `a`; an unlisted address reads 0 (log 11). -/
def Memory.read : List Host.Cell → Nat → Byte
  | [], _ => 0
  | (b, v) :: m, a => if a = b then v else Memory.read m a

/-- Write one byte, keeping the canonical form. -/
def Memory.write : List Host.Cell → Nat → Byte → List Host.Cell
  | [], a, v => if v = 0 then [] else [(a, v)]
  | (b, w) :: m, a, v =>
    if a < b then (if v = 0 then (b, w) :: m else (a, v) :: (b, w) :: m)
    else if a = b then (if v = 0 then m else (a, v) :: m)
    else (b, w) :: Memory.write m a v

/-- Write a run of bytes from address `a` upwards. -/
def Memory.writeBytes : List Host.Cell → Nat → List Byte → List Host.Cell
  | m, _, [] => m
  | m, a, v :: vs => Memory.writeBytes (Memory.write m a v) (a + 1) vs

/-- The canonical form: addresses strictly rising, no listed byte equal to what an unlisted address reads as. -/
abbrev Memory.wf (m : List Host.Cell) : Prop :=
  m.Pairwise (fun x y => x.1 < y.1) ∧ ∀ c ∈ m, c.2 ≠ 0

/-- The address of byte `m` of line `j` of a band run with cell chain `chain` and width `width` (R5, R82). -/
def lineAddress (chain : List Nat) (width j : Nat) : Nat :=
  chain.getD (j / Config.bandLines) 0 * Config.cellBytes + (j % Config.bandLines) * width * 32

/-- A run of `n` bytes at byte offset `off` of cell `cell` lies inside the cell and inside the store. -/
def insideStore (cell off n : Nat) : Bool :=
  decide (cell < Config.cellCount) && decide (off + n ≤ Config.cellBytes)

/-! ### The store port (R6) -/

/-- The cyclic order receive, A, B. -/
def Requester.next : Requester → Requester
  | .receive => .a
  | .a => .b
  | .b => .receive

/-- The requester of an imager's Swath Composer. -/
def Requester.ofImager : Imager → Requester
  | .a => .a
  | .b => .b

def Port.waits (p : Port) : Requester → Bool
  | .receive => p.waitReceive
  | .a => p.waitA
  | .b => p.waitB

def Port.setWait (p : Port) (r : Requester) (w : Bool) : Port :=
  match r with
  | .receive => { p with waitReceive := w }
  | .a => { p with waitA := w }
  | .b => { p with waitB := w }

/-- Grant the port to a waiting requester. -/
def Port.grant (p : Port) (r : Requester) : Port :=
  { p.setWait r false with busy := some ⟨r, false⟩, last := r }

/-- With the port free, grant the waiting requester that follows the last requester granted (R6). -/
def Port.arbitrate (p : Port) : Port :=
  match p.busy with
  | some _ => p
  | none =>
    if p.waits p.last.next then p.grant p.last.next
    else if p.waits p.last.next.next then p.grant p.last.next.next
    else if p.waits p.last then p.grant p.last
    else p

/-- A requester starts waiting; an idle port is granted at once (R6). -/
def Port.request (p : Port) (r : Requester) : Port := (p.setWait r true).arbitrate

/-- A requester's work is abandoned: its waiting request is withdrawn, and the result of a transfer already granted
is discarded (R6). -/
def Port.withdraw (p : Port) (r : Requester) : Port :=
  let q := p.setWait r false
  match q.busy with
  | some t => if t.by_ = r then { q with busy := some ⟨r, true⟩ } else q
  | none => q

def State.requestPort (r : Requester) (s : State) : State :=
  { s with store := { s.store with port := s.store.port.request r } }

def State.withdrawPort (r : Requester) (s : State) : State :=
  { s with store := { s.store with port := s.store.port.withdraw r } }

/-! ### Reports (R195, R196) -/

/-- Report types (Table 10.4). -/
def EventBody.type : EventBody → Nat
  | .pageDone _ => 1
  | .plateExposed _ => 2
  | .plateDelivered _ => 3
  | .pageDropped _ => 4
  | .plateRejected _ => 5

/-- Report levels (Table 10.9). -/
def EventBody.level : EventBody → Nat
  | .pageDone _ => 0
  | .plateExposed _ => 1
  | .plateDelivered _ => 1
  | .pageDropped _ => 2
  | .plateRejected _ => 2

/-- Report types of the conditions (Table 10.4). -/
def Source.type : Source → Nat
  | .line => 16
  | .imagerA => 17
  | .imagerB => 18
  | .stockA => 19
  | .stockB => 20
  | .link => 21
  | .overflow => 22

/-- Levels of the conditions (Table 10.9). -/
def Source.level : Source → Nat
  | .line => 3
  | .imagerA => 3
  | .imagerB => 3
  | .stockA => 1
  | .stockB => 1
  | .link => 1
  | .overflow => 2

def Source.all : List Source := [.line, .imagerA, .imagerB, .stockA, .stockB, .link, .overflow]

/-- The IMAGER condition of an imager. -/
def Source.imager : Imager → Source
  | .a => .imagerA
  | .b => .imagerB

/-- The STOCK condition of an imager. -/
def Source.stock : Imager → Source
  | .a => .stockA
  | .b => .stockB

def Slots.get (t : Slots) : Source → Option Condition
  | .line => t.line
  | .imagerA => t.imagerA
  | .imagerB => t.imagerB
  | .stockA => t.stockA
  | .stockB => t.stockB
  | .link => t.link
  | .overflow => t.overflow

def Slots.set (t : Slots) (src : Source) (c : Option Condition) : Slots :=
  match src with
  | .line => { t with line := c }
  | .imagerA => { t with imagerA := c }
  | .imagerB => { t with imagerB := c }
  | .stockA => { t with stockA := c }
  | .stockB => { t with stockB := c }
  | .link => { t with link := c }
  | .overflow => { t with overflow := c }

/-- A slot after a raise at the time `now` (R196). -/
def Condition.raised (old : Option Condition) (body : ConditionBody) (now : Nat) : Condition :=
  match old with
  | none => { body := body, repeats := 0, since := now, latest := now }
  | some c => { body := body, repeats := min (c.repeats + 1) 255, since := c.since, latest := now }

/-- The Report Unit after a raise (R196). -/
def Reports.raise (r : Reports) (src : Source) (body : ConditionBody) (now : Nat) : Reports :=
  { r with slots := r.slots.set src (some (Condition.raised (r.slots.get src) body now)) }

/-- The Report Unit after an event report is offered (R195). -/
def Reports.offer (r : Reports) (body : EventBody) (now : Nat) : Reports :=
  if r.events.length < Config.maxReports then { r with events := r.events ++ [⟨body, now⟩] }
  else r.raise .overflow (.overflow ⟨body.type, body.level, now⟩) now

/-- A condition is raised (R196). -/
def State.raise (src : Source) (body : ConditionBody) (s : State) : State :=
  { s with reports := s.reports.raise src body s.now }

/-- An event report is offered (R195). -/
def State.offer (body : EventBody) (s : State) : State :=
  { s with reports := s.reports.offer body s.now }

/-! ### Replies (R191) -/

/-- An owner's reply joins the reply list. -/
def State.addReply (r : Reply) (s : State) : State :=
  { s with link := { s.link with replies := s.link.replies ++ [r] } }

/-- The places of the reply list open to a reply made at once (R191): while a request is being applied one place is kept
for its reply. The request at the head is being applied from the moment the list has room for its reply (log 4). -/
def Link.openPlaces (l : Link) : Nat := if l.requests.isEmpty then Config.maxReplies else Config.maxReplies - 1

/-- A reply made at once under R190: dropped with the LINK condition when it finds no open place (R191). -/
def State.replyAtOnce (tag kind : Nat) (code : Code) (s : State) : State :=
  if s.link.replies.length < s.link.openPlaces then s.addReply ⟨tag, kind, code, []⟩
  else s.raise .link (.link ⟨.replyDropped, kind, tag, none, s.now⟩)

/-! ### Small list operations -/

/-- Insert a number into a strictly rising list (a set of numbers). -/
def insertRising (n : Nat) : List Nat → List Nat
  | [] => [n]
  | m :: l => if n < m then n :: m :: l else if n = m then m :: l else m :: insertRising n l

end Sys2Proof.Machine
end

