-- ==== Sys2Proof/Machine/Flags.lean ====
section
/-! DEFINITION. The judgments that the spec makes from the state: encoder transitions, the validity of a revolution,
the minimum of a window, the acceptance of an input's change, the freeing condition. -/

namespace Sys2Proof.Machine

/-! ### Encoder decoding (R106) -/

/-- The phase that follows in forward motion: 00, 10, 11, 01, 00 (pairs P, Q). -/
def nextPhase (a : Phase) : Phase :=
  match a.p, a.q with
  | false, false => ⟨true, false⟩
  | true, false => ⟨true, true⟩
  | true, true => ⟨false, true⟩
  | false, true => ⟨false, false⟩

/-- The direction of a change of one phase line between two samples: true forward, false reverse. No change and a
double change have none. -/
def direction (old new : Phase) : Option Bool :=
  if nextPhase old = new then some true else if nextPhase new = old then some false else none

/-- Table 6.1: whether the multiplier counts the transition between the two samples. -/
def countedTransition (mult : Nat) (old new : Phase) : Bool :=
  match mult with
  | 4 => true
  | 2 => decide (old.p ≠ new.p)
  | _ => decide ((old = ⟨false, false⟩ ∧ new = ⟨true, false⟩) ∨ (old = ⟨true, false⟩ ∧ new = ⟨false, false⟩))

/-- The Drum Timing Unit after a sample of the phase lines (R106, R107). -/
def Drum.sample (mult : Nat) (new : Phase) (d : Drum) : Drum :=
  let counted := countedTransition mult d.phase new
  match direction d.phase new with
  | some true =>
    { d with phase := new, position := if counted then (d.position + 1) % Config.counterModulus else d.position }
  | some false =>
    { d with phase := new, reverse := true,
             position := if counted then (d.position + Config.counterModulus - 1) % Config.counterModulus
                         else d.position }
  | none => { d with phase := new }

/-! ### Revolutions (R108 to R111) -/

/-- E of R110. -/
def expectedPeriod (pRev d : Nat) : Nat := pRev * (2 * (d + 1))

/-- W_t of R110. -/
def toleranceHalf (e tol : Nat) : Nat := e * tol / 4096

/-- The latched period lies in E - W_t .. E + W_t and is not saturated (R108, R110). -/
def Settings.periodOk (t : Settings) (latch : Nat) : Bool :=
  decide (latch ≠ Config.saturated) && decide (t.e - t.wt ≤ latch) && decide (latch ≤ t.e + t.wt)

/-- The judgment of the revolution that an index ends (R111, Table 6.2): none when it is valid, otherwise the first
reason that applies in the order FIRST, REVERSE, COUNT, PERIOD. -/
def judge (t : Settings) (first reverse : Bool) (net latch : Nat) : Option Reason :=
  if first then some .first
  else if reverse then some .reverse
  else if net ≠ t.c then some .count
  else if t.periodOk latch then none
  else some .period

/-- The Drum Timing Unit's part of an index (R107). -/
def Drum.index (t : Settings) (d : Drum) : Drum :=
  { d with net := d.position, latch := d.period, period := 0, position := 0, reverse := false, first := false,
           judgment := judge t d.first d.reverse d.position d.period }

/-- Reference ticks after the index at which the emission of a swath ends (R109). -/
def Settings.emissionTicks (t : Settings) (x : Nat) : Nat := (t.g + x) * (2 * (t.d + 1))

/-! ### Windows (R141) -/

/-- The window's minimum is met by an arrival stamped `t` (R141). -/
def Window.minMet (w : Window) (t : Nat) : Bool :=
  (notBefore t w.start && decide (w.min ≤ Machine.elapsed t w.start)) || (w.frozen && decide (w.elapsed = some Config.count16))

/-! ### Sensor inputs (R96, R97) -/

/-- The reference tick of the sample at which the pending change is accepted (R97, R100 step 3). -/
def Input.acceptTick (n : Input) (c : PendingChange) : Nat := max (c.start + n.filter * Config.ticksPerMs) c.notBefore

/-- A pending change is accepted at or before the reference tick `ref`. -/
def Input.mature (n : Input) (ref : Nat) : Bool :=
  match n.change with
  | none => false
  | some c => decide (n.acceptTick c ≤ ref)

/-- The pending change is an active edge: the raw level is the active level (R96, R97). -/
def Input.activeEdge (n : Input) : Bool := n.raw == n.rising

/-- The filtered level is the active level (R96). -/
def Input.active (n : Input) : Bool := n.filtered == n.rising

/-- The Line Timebase time at the sample of acceptance: the timestamp of the arrival (R98). -/
def Input.stamp (n : Input) : Nat :=
  match n.change with
  | none => 0
  | some c => n.acceptTick c / Config.ticksPerMs % Config.timeModulus

/-- Acceptance of the pending change (R97). -/
def Input.accepted (n : Input) : Input := { n with filtered := n.raw, change := none }

/-- The input `n` (Table 5.1). -/
def State.input (s : State) (n : Nat) : Input := s.inputs.getD n (Input.reset false)

/-- An active edge of input `n` is accepted at this sample, or was accepted at an earlier one and is taken now. -/
def State.arrives (s : State) (n : Nat) : Bool := (s.input n).mature s.clock.ref && (s.input n).activeEdge

/-- An inactive edge of input `n` is accepted. -/
def State.departs (s : State) (n : Nat) : Bool := (s.input n).mature s.clock.ref && !(s.input n).activeEdge

/-- Input `n` with its change accepted. -/
def State.acceptInput (n : Nat) (s : State) : State := { s with inputs := s.inputs.set n (s.input n).accepted }

/-! ### Freeing (R22) -/

/-- The freeing condition of R22. -/
def PageRecord.freeable (r : PageRecord) : Bool :=
  decide (r.refs = 0) && (decide (r.state = .superseded) || (decide (r.state = .current) && !r.retain))

end Sys2Proof.Machine
end

