-- ==== Sys2Proof/Machine/Encode.lean ====
section
/-! DEFINITION. The field encodings of Table 10.5, the contents of reports (Tables 1.4, 1.5, 3.1, 6.6, 9.3, 9.4, 10.8,
R127, R156, R195), and the frame check of R186. -/

namespace Sys2Proof.Machine

/-! ### Numbers and optional fields (Table 10.5) -/

/-- `n` in `w` bytes, most significant byte first (R186). -/
def be : Nat → Nat → List Byte
  | 0, _ => []
  | w + 1, n => BitVec.ofNat 8 (n / 256 ^ w) :: be w n

/-- `w` bytes of all ones: an absent field. -/
def allOnes (w : Nat) : List Byte := List.replicate w 255

/-- An optional field of `w` bytes whose range does not fill its width, which is to say that some value of the width lies
outside it: all ones when absent. -/
def optField (w : Nat) : Option Nat → List Byte
  | none => allOnes w
  | some n => be w n

/-- An optional field of `w` bytes whose range fills its width: a presence byte, then the field, all ones when absent. -/
def presentField (w : Nat) : Option (List Byte) → List Byte
  | none => 0 :: allOnes w
  | some bs => 1 :: bs

/-- An optional Line Timebase time. -/
def optTime (t : Option Nat) : List Byte := presentField 4 (t.map (be 4))

/-- A flag: 1 set, 0 clear; a yes or no: 1 yes, 0 no (log 15). -/
def flagByte (b : Bool) : List Byte := [if b then 1 else 0]

/-- A value of two names: 0 for the first, 1 for the second (Table 10.5). -/
def firstByte (first : Bool) : List Byte := [if first then 0 else 1]

/-- A list of varying length: 1 byte of element count, then the elements. -/
def listOf {α : Type} (enc : α → List Byte) (l : List α) : List Byte := be 1 l.length ++ l.flatMap enc

def keyBytes (k : PageKey) : List Byte := be 1 k.edition ++ be 1 k.zone ++ be 1 k.sect ++ be 1 k.page ++ be 1 k.sep

/-- A key or BLANK, whose page number is 0. -/
def optKeyBytes : Option PageKey → List Byte
  | none => List.replicate 5 0
  | some k => keyBytes k

def plateBytes (p : PlateId) : List Byte := be 1 p.line ++ be 1 p.unit ++ be 1 p.face ++ be 1 p.across

/-- An optional plate id. -/
def optPlate (p : Option PlateId) : List Byte := (p.map plateBytes).getD (allOnes 4)

/-- An optional number of 2 bytes whose range is 0..65535. -/
def presentWord (n : Option Nat) : List Byte := presentField 2 (n.map (be 2))

/-- An optional number of 1 byte whose range is 0..255. -/
def presentByte (n : Option Nat) : List Byte := presentField 1 (n.map (be 1))

/-- A fan-out value in two's complement. -/
def fanBytes (f : Int) : List Byte := be 2 (f % 65536).toNat

/-- The binding of a position; WAITING, which no item and no report holds, is the key given with version 0. -/
def bindingBytes (waitingKey : Option PageKey) : Binding → List Byte
  | .bound k v => keyBytes k ++ be 1 v
  | .waiting => optKeyBytes waitingKey ++ [0]
  | .blank => List.replicate 6 0

/-! ### Codes of named values, numbered from 0 in the order of their defining tables -/

def imagerCode : Imager → Nat
  | .a => 0
  | .b => 1

/-- R2. -/
def pageStateCode : PageState → Nat
  | .receiving => 0
  | .current => 1
  | .superseded => 2

/-- R8. -/
def contextCode : ContextState → Nat
  | .idle => 0
  | .receiving => 1
  | .completing => 2

/-- R18. -/
def dropCode : DropCause → Nat
  | .gap => 0
  | .length => 1
  | .timeout => 2
  | .abandoned => 3
  | .overtaken => 4

/-- Table 2.1. -/
def affinityCode : Affinity → Nat
  | .any => 0
  | .a => 1
  | .b => 2

/-- R35. -/
def buildCode : BuildState → Nat
  | .open_ => 0
  | .ready => 1
  | .assigned => 2
  | .exposing => 3
  | .exiting => 4

/-- Table 7.1. -/
def causeCode : Cause → Nat
  | .none_ => 0
  | .superseded => 1
  | .cancelled => 2
  | .faulty => 3
  | .redirected => 4
  | .dieFault => 5
  | .bendFault => 6

/-- R124. -/
def endCode : EndKind → Nat
  | .complete => 0
  | .skipLimit => 1
  | .truncated => 2
  | .stopped => 3
  | .stalled => 4

/-- R86, Table 4.4. -/
def bufferCode : BufferState → Nat
  | .free => 0
  | .filling => 1
  | .full => 2
  | .emitting => 3

/-- Table 6.4. -/
def imagerStateCode : ImagerState → Nat
  | .idle => 0
  | .loading => 1
  | .spinup => 2
  | .exposing => 3
  | .exitWait => 4
  | .unloading => 5
  | .fault => 6

/-- R127. -/
def faultCode : FaultCause → Nat
  | .loadTimeout => 0
  | .spinupTimeout => 1
  | .restartWithPlate => 2

/-- Table 6.2. -/
def reasonCode : Reason → Nat
  | .first => 0
  | .reverse => 1
  | .count => 2
  | .period => 3

/-- R131. -/
def lineCode : LineState → Nat
  | .stopped => 0
  | .running => 1
  | .halted => 2

/-- Table 7.1. -/
def zoneCode : Zone → Nat
  | .transfer => 0
  | .punch => 1
  | .link => 2
  | .bend => 3
  | .outfeed => 4
  | .sort => 5

/-- Table 7.1. -/
def locationCode : Location → Nat
  | .merging => 0
  | .conveying => 1
  | .atGate => 2
  | .entering => 3
  | .inStation => 4

/-- Table 7.1. -/
def workCode : Work → Nat
  | .notStarted => 0
  | .working => 1
  | .done => 2

/-- Table 7.4. -/
def windowCode : WindowKind → Nat
  | .exit => 0
  | .transferGate => 1
  | .linkGate => 2
  | .outfeedGate => 3
  | .punchEntry => 4
  | .bendEntry => 5
  | .sortEntry => 6
  | .deposit => 7

/-- The input number of a Line Tracker sensor (Table 5.1). -/
def sensorInput : LineSensor → Nat
  | .exitA => 2
  | .exitB => 3
  | .tg => 4
  | .ps => 5
  | .lg => 6
  | .bs => 7
  | .og => 8
  | .ss => 9
  | .sd => 10

/-- Table 7.5. -/
def haltCode : HaltCause → Nat
  | .missing => 0
  | .phantom => 1
  | .depositTimeout => 2
  | .dieTimeout => 3
  | .bendTimeout => 4
  | .exitFull => 5
  | .stop => 6

/-- R176. -/
def exitCodeOf : ExitName → Nat
  | .reject => 0
  | .remake => 1

/-- Table 8.1. -/
def punchCode : PunchState → Nat
  | .idle => 0
  | .stroking => 1
  | .paused => 2

/-- Table 8.2. -/
def bendCode : BendState → Nat
  | .idle => 0
  | .bending => 1
  | .paused => 2

/-- Table 8.2. -/
def bendKindCode : BendKind → Nat
  | .lead => 0
  | .tail => 1

/-- Table 9.2. -/
def sortCode : SortState → Nat
  | .idle => 0
  | .depositing => 1
  | .blocked => 2

/-- Table 9.2. -/
def divertCode : Divert → Nat
  | .cartAbsent => 0
  | .noSlot => 1
  | .slotOccupied => 2

/-- R6. -/
def requesterCode : Requester → Nat
  | .receive => 0
  | .a => 1
  | .b => 2

/-- Table 10.8. -/
def linkCode : LinkCause → Nat
  | .badFrame => 0
  | .badCheck => 1
  | .orphanBand => 2
  | .bandOverrun => 3
  | .replyDropped => 4

/-- Table 10.6. -/
def completionCode : Code → Nat
  | .ok => 0
  | .busy => 1
  | .range => 2
  | .full => 3
  | .noSpace => 4
  | .stale => 5
  | .inUse => 6
  | .notFound => 7
  | .badState => 8
  | .unknown => 9
  | .limit => 10

/-! ### Contents of reports -/

/-- Table 1.5; disposition KEPT is 0, NOT_PLACED is 1. -/
def PageDone.bytes (c : PageDone) : List Byte :=
  keyBytes c.key ++ be 1 c.version ++ be 1 c.width ++ be 2 c.height ++ be 1 c.bound ++ be 1 c.superseded ++
    be 1 c.overtaken ++ firstByte c.kept

/-- Table 1.4. -/
def PageDropped.bytes (c : PageDropped) : List Byte :=
  keyBytes c.key ++ be 1 c.version ++ be 1 c.stream ++ be 1 (dropCode c.cause) ++ be 2 c.bands ++ be 2 c.height ++
    presentWord c.offending ++ be 1 c.overtaking

/-- The residual swaths of Table 6.6, absent for COMPLETE. -/
def PlateExposed.residual (c : PlateExposed) : Option Nat :=
  if c.kind = .complete then none else some (c.count - c.written)

/-- The last swath written of Table 6.6, absent for COMPLETE; NONE when no swath was written. DESIGN CHOICE (log 16): NONE
is coded all ones, as the absent field is. -/
def PlateExposed.last (c : PlateExposed) : Option Nat :=
  if c.kind = .complete ∨ c.written = 0 then none else some (c.written - 1)

/-- Table 6.6. -/
def PlateExposed.bytes (c : PlateExposed) : List Byte :=
  plateBytes c.plate ++ be 1 c.generation ++ be 1 (imagerCode c.imager) ++ be 1 (endCode c.kind) ++
    be 1 (causeCode c.cause) ++ be 2 c.count ++ be 2 c.written ++ be 2 c.skipped ++ listOf flagByte c.clipped ++
    optField 2 c.residual ++ optField 2 c.last ++ be 4 c.time

/-- Exit, cart number and slot of Table 9.3: CART is 0, REMAKE is 1 (log 16). -/
def Destination.deliveredBytes : Destination → List Byte
  | .cart n slot => [0] ++ be 1 n ++ be 1 slot
  | .reject => [1, 255, 255]
  | .remake => [1, 255, 255]

/-- Table 9.3. The yes or no of slot marked is coded as a flag, yes 1 and no 0 (log 15). -/
def PlateDelivered.bytes (c : PlateDelivered) : List Byte :=
  plateBytes c.plate ++ be 1 c.generation ++ be 2 c.order ++ be 1 c.press ++ c.destination.deliveredBytes ++
    (match c.destination with
      | .cart _ _ => flagByte c.marked ++ [255] ++ [255]
      | _ => [255] ++ optField 1 (c.divert.map divertCode) ++ be 1 c.remakes) ++
    listOf (bindingBytes none) c.positions ++ be 4 c.time

/-- Table 9.4. -/
def PlateRejected.bytes (c : PlateRejected) : List Byte :=
  plateBytes c.plate ++ be 1 c.generation ++ be 2 c.order ++ be 1 c.press ++ be 1 (causeCode c.cause) ++
    flagByte c.redirected ++ be 1 c.rejects ++ be 4 c.time

def EventBody.bytes : EventBody → List Byte
  | .pageDone c => c.bytes
  | .plateExposed c => c.bytes
  | .plateDelivered c => c.bytes
  | .pageDropped c => c.bytes
  | .plateRejected c => c.bytes

/-- The optional halt item of R156: order number, plate id, generation, zone and location at the halt. An absent record is
its fields, each absent (log 16). -/
def optHaltItem (h : Option HaltItem) : List Byte :=
  presentWord (h.map HaltItem.order) ++ optPlate (h.map HaltItem.plate) ++ presentByte (h.map HaltItem.generation) ++
    optField 1 (h.map fun h => zoneCode h.zone) ++ optField 1 (h.map fun h => locationCode h.location)

/-- The sensor or exit of a halt record (R156). DESIGN CHOICE (log 16): both places, one of them absent. -/
def HaltRecord.placeBytes (h : Option HaltRecord) : List Byte :=
  optField 1 (h.bind HaltRecord.sensor) ++ optField 1 ((h.bind HaltRecord.exit).map exitCodeOf)

/-- The latest further cause with its item and sensor (R156). -/
def optFurther (f : Option FurtherHalt) : List Byte :=
  optField 1 (f.map fun f => haltCode f.cause) ++ optHaltItem (f.bind FurtherHalt.item) ++
    optField 1 (f.bind FurtherHalt.sensor)

/-- R156. DESIGN CHOICE (log 39): the content of a PHANTOM in STOPPED has the same layout, with the fields that R156 does not
name absent and the further-halts count 0. -/
def LineContent.bytes (c : LineContent) : List Byte :=
  be 1 (haltCode c.halt.cause) ++ optHaltItem c.halt.item ++ HaltRecord.placeBytes (some c.halt) ++ be 4 c.halt.time ++
    be 1 (lineCode c.state) ++ be 1 c.halt.count ++ optFurther c.halt.further

/-- The halt record as QUERY LINE returns it, or absent (R147, R148). -/
def optHalt (h : Option HaltRecord) : List Byte :=
  optField 1 (h.map fun h => haltCode h.cause) ++ optHaltItem (h.bind HaltRecord.item) ++ HaltRecord.placeBytes h ++
    optTime (h.map HaltRecord.time) ++ presentByte (h.map HaltRecord.count) ++ optFurther (h.bind HaltRecord.further)

/-- The plate id and generation of a fault record, absent when the imager held no build. -/
def optHeld (p : Option (PlateId × Nat)) : List Byte := optPlate (p.map Prod.fst) ++ presentByte (p.map Prod.snd)

/-- The fault record (Table 6.5): cause, plate id, generation, state left, timestamp. -/
def FaultRecord.bytes (f : FaultRecord) : List Byte :=
  be 1 (faultCode f.cause) ++ optHeld f.plate ++ be 1 (imagerStateCode f.left) ++ be 4 f.time

/-- The fault record as QUERY IMAGER returns it, or absent (R128). -/
def optFault (f : Option FaultRecord) : List Byte :=
  optField 1 (f.map fun f => faultCode f.cause) ++ optHeld (f.bind FaultRecord.plate) ++
    optField 1 (f.map fun f => imagerStateCode f.left) ++ optTime (f.map FaultRecord.time)

/-- Table 3.1. -/
def StockContent.bytes (c : StockContent) : List Byte :=
  be 1 (imagerCode c.imager) ++ be 1 c.size ++ plateBytes c.plate ++ be 1 c.generation ++ be 1 c.waiting

/-- Table 10.8. -/
def LinkContent.bytes (c : LinkContent) : List Byte :=
  be 1 (linkCode c.cause) ++ be 1 c.kind ++ be 1 c.tag ++ presentWord c.band ++ be 4 c.time

/-- R195. -/
def OverflowContent.bytes (c : OverflowContent) : List Byte := be 1 c.type ++ be 1 c.level ++ be 4 c.time

def ConditionBody.bytes : ConditionBody → List Byte
  | .line c => c.bytes
  | .imager c => c.bytes
  | .stock c => c.bytes
  | .link c => c.bytes
  | .overflow c => c.bytes

/-- The payload of a report frame (Table 10.4). -/
def reportPayload (type level repeats time : Nat) (content : List Byte) : List Byte :=
  be 1 type ++ be 1 level ++ be 1 repeats ++ be 4 time ++ content

/-- The payload of a reply frame (Table 10.4). -/
def Reply.payload (r : Reply) : List Byte := be 1 r.kind ++ be 1 (completionCode r.code) ++ r.result

/-! ### The frame check (R186) -/

/-- The generator polynomial of R186 without its x^32 term, bit n the coefficient of x^(31-n): the check register
shifts towards bit 0, because the bits of each byte enter it least significant bit first. -/
def crcPolynomial : BitVec 32 := 0xEDB88320

/-- One bit enters the check register. -/
def crcShift (r : BitVec 32) : BitVec 32 := if r.getLsbD 0 then (r >>> 1) ^^^ crcPolynomial else r >>> 1

def crcShifts : Nat → BitVec 32 → BitVec 32
  | 0, r => r
  | n + 1, r => crcShifts n (crcShift r)

/-- One byte enters the check register. -/
def crcByte (r : BitVec 32) (b : Byte) : BitVec 32 := crcShifts 8 (r ^^^ b.zeroExtend 32)

/-- The CRC-32 of R186: preset to all ones, complemented at the end. -/
def crc (bs : List Byte) : BitVec 32 := ~~~ (bs.foldl crcByte (BitVec.allOnes 32))

/-- The 4 check bytes, least significant byte first. -/
def checkBytes (bs : List Byte) : List Byte := (be 4 (crc bs).toNat).reverse

/-- The bytes of a frame between its delimiters: the 5-byte header, the payload and the check (R186). -/
def frameBytes (kind tag : Nat) (payload : List Byte) : List Byte :=
  let body := be 1 kind ++ be 1 tag ++ be 3 payload.length ++ payload
  body ++ checkBytes body

/-- The bytes of the upstream frame being sent (R186). -/
def UpFrame.bytes (f : UpFrame) : List Byte := frameBytes f.kind f.tag f.payload

end Sys2Proof.Machine
end

