-- ==== Sys2Proof/Machine/Upstream.lean ====
section
/-! DEFINITION. The choice of the next upstream frame (R197). -/

namespace Sys2Proof.Machine

/-- What may be sent as a report: the event report at a place of the queue, or the condition of a slot. -/
inductive Pick where
  | event (place : Nat)
  | slot (src : Source)
  deriving DecidableEq, Repr

/-- A report that waits, with its level and the ms since its offer or since its slot became pending. -/
structure Candidate where
  pick : Pick
  level : Nat
  age : Nat
  deriving DecidableEq, Repr

/-- The event reports that wait. -/
def Reports.eventCandidates (r : Reports) (now : Nat) : List Candidate :=
  r.events.zipIdx.map fun e => ⟨.event e.2, e.1.body.level, elapsed now e.1.time⟩

/-- The conditions that wait. -/
def Reports.slotCandidates (r : Reports) (now : Nat) : List Candidate :=
  Source.all.filterMap fun src => (r.slots.get src).map fun c => ⟨.slot src, src.level, elapsed now c.since⟩

/-- The sendable reports: those whose level is at or above the mask level (R197). -/
def Reports.sendable (r : Reports) (now : Nat) : List Candidate :=
  (r.eventCandidates now ++ r.slotCandidates now).filter fun c => decide (r.mask ≤ c.level)

/-- Of the candidates, those of the highest level and, among them, the longest waiting (R197). -/
def Candidate.foremost (cs : List Candidate) : List Candidate :=
  cs.filter fun c => cs.all fun d => decide (d.level < c.level) || (decide (d.level = c.level) && decide (d.age ≤ c.age))

/-- The report to send, and how many free choices that took: when several came at the same time either may be sent
first, and the free value decides (R197, log 9). -/
def Reports.choose (r : Reports) (now free : Nat) : Option (Pick × Nat) :=
  match Candidate.foremost (r.sendable now) with
  | [] => none
  | [c] => some (c.pick, free)
  | c :: cs => some (((c :: cs).getD (Config.freePick free % (cs.length + 1)) c).pick, free + 1)

/-- The Report Unit without the report that is sent (R195, R196), its number taken (R197). -/
def Reports.remove (r : Reports) (p : Pick) : Reports :=
  let r' := { r with seq := (r.seq + 1) % 256 }
  match p with
  | .event n => { r' with events := r.events.eraseIdx n }
  | .slot src => { r' with slots := r.slots.set src none }

/-- The frame that carries a report (R187, R197). -/
def Reports.frame (r : Reports) (p : Pick) : UpFrame :=
  { kind := 129, tag := r.seq,
    payload :=
      match p with
      | .event n =>
        match r.events[n]? with
        | some e => reportPayload e.body.type e.body.level 0 e.time e.body.bytes
        | none => []
      | .slot src =>
        match r.slots.get src with
        | some c => reportPayload src.type src.level c.repeats c.latest c.body.bytes
        | none => [] }

/-- The frame that carries a reply (R187). -/
def Reply.frame (r : Reply) : UpFrame := { kind := 128, tag := r.tag, payload := r.payload }

/-- With the lane idle, the next upstream frame begins: the oldest reply, or else the report of R197. -/
def State.pump (s : State) : State :=
  match s.link.lane with
  | some _ => s
  | none =>
    match s.link.replies with
    | r :: rs => { s with link := { s.link with lane := some r.frame, replies := rs } }
    | [] =>
      match s.reports.choose s.now s.freeCount with
      | none => s
      | some (p, free) =>
        { s with link := { s.link with lane := some (s.reports.frame p) }, reports := s.reports.remove p,
                 freeCount := free }

/-- The band-ready mark of the upstream idle fill: true for READY (R186, R189). -/
def State.bandReady (s : State) : Bool := s.link.holding.isNone

end Sys2Proof.Machine
end

