-- ==== Sys2Proof/Machine/Pages.lean ====
section
/-! DEFINITION. Pages and the raster store (chapter 1): page records and their cells, reference counts and freeing,
band frames, drops, the receive writer, completion. -/

namespace Sys2Proof.Machine

/-! ### Page records (R1 to R5) -/

/-- The record is the one of this key and version. -/
def PageRecord.isFor (r : PageRecord) (k : PageKey) (v : Nat) : Bool := decide (r.key = k) && decide (r.version = v)

def Store.find (t : Store) (k : PageKey) (v : Nat) : Option PageRecord := t.directory.find? fun r => r.isFor k v

/-- The CURRENT record of a key (R19). -/
def Store.current (t : Store) (k : PageKey) : Option PageRecord :=
  t.directory.find? fun r => decide (r.key = k) && decide (r.state = .current)

def Store.modify (t : Store) (k : PageKey) (v : Nat) (f : PageRecord → PageRecord) : Store :=
  { t with directory := t.directory.map fun r => if r.isFor k v then f r else r }

/-- A record leaves the directory: its cells go to the tail of the idle cell list in chain order, its whole height
to the free cell count (R3, R4, R18, R22). -/
def Store.giveBack (t : Store) (r : PageRecord) : Store :=
  { t with directory := t.directory.filter fun q => !q.isFor r.key r.version,
           idleCells := t.idleCells ++ r.chain, freeCells := t.freeCells + r.height }

/-- A completion notice of the record is not yet answered (R20). -/
def Store.deferred (t : Store) (k : PageKey) (v : Nat) : Bool :=
  t.notices.any fun n => decide (n.key = k) && decide (n.version = v)

/-- The freeing evaluation of a record (R22), deferred while its completion notice is not answered (R20). -/
def Store.evalFree (t : Store) (k : PageKey) (v : Nat) : Store :=
  match t.find k v with
  | none => t
  | some r => if r.freeable && !t.deferred k v then t.giveBack r else t

/-- A position is bound to a record (R21). -/
def Store.addRef (t : Store) (k : PageKey) (v : Nat) : Store := t.modify k v fun r => { r with refs := r.refs + 1 }

/-- A position bound to a record is given up, and the freeing condition evaluated (R21, R22). -/
def Store.dropRef (t : Store) (k : PageKey) (v : Nat) : Store :=
  (t.modify k v fun r => { r with refs := r.refs - 1 }).evalFree k v

/-- The positions of a plate are bound, one notice each (R21). -/
def Store.addRefs (t : Store) : List Binding → Store
  | [] => t
  | .bound k v :: bs => (t.addRef k v).addRefs bs
  | _ :: bs => t.addRefs bs

/-- The positions of a plate are given up, one notice each (R21). -/
def Store.dropRefs (t : Store) : List Binding → Store
  | [] => t
  | .bound k v :: bs => (t.dropRef k v).dropRefs bs
  | _ :: bs => t.dropRefs bs

/-! ### Receive contexts and drops (R8, R18) -/

def State.context (s : State) (stream : Nat) : Context := s.rx.contexts.getD stream {}

def State.setContext (stream : Nat) (c : Context) (s : State) : State :=
  { s with rx := { s.rx with contexts := s.rx.contexts.set stream c } }

/-- The writer abandons its write if it writes a band of the record (R7, R18). -/
def State.abandonWrite (k : PageKey) (v : Nat) (s : State) : State :=
  match s.rx.writer with
  | none => s
  | some j => if j.key = k ∧ j.version = v then
      State.withdrawPort .receive { s with rx := { s.rx with writer := none } } else s

/-- A RECEIVING record is dropped, without the report (R18). The next band of its context becomes 0 (DESIGN CHOICE, log
30). -/
def State.discardRecord (r : PageRecord) (s : State) : State :=
  let s := s.abandonWrite r.key r.version
  let s := { s with store := s.store.giveBack r }
  match r.stream with
  | none => s
  | some t => s.setContext t {}

/-- A RECEIVING record is dropped, with its PAGE DROPPED report (R18, Table 1.4). -/
def State.dropRecord (r : PageRecord) (cause : DropCause) (offending : Option Nat) (overtaking : Nat) (s : State) :
    State :=
  (s.discardRecord r).offer (.pageDropped
    { key := r.key, version := r.version, stream := r.stream.getD 0, cause := cause, bands := r.bands,
      height := r.height, offending := offending, overtaking := overtaking })

/-! ### Band frames (R11 to R13) -/

/-- The band index of a band frame's payload (Table 10.3). -/
def BandFrame.index (f : BandFrame) : Nat := (f.payload.take 2).foldl (fun n b => n * 256 + b.toNat) 0

/-- The LINK condition for a band frame (R11, R189). -/
def BandFrame.link (f : BandFrame) (cause : LinkCause) (now : Nat) : ConditionBody :=
  .link { cause := cause, kind := 1, tag := f.tag, band := some f.index, time := now }

/-- A band is accepted (R13). -/
def State.acceptBand (f : BandFrame) (c : Context) (r : PageRecord) (s : State) : State :=
  let cell := s.store.idleCells.headD 0
  let next := c.nextBand + 1
  let store := { s.store with idleCells := s.store.idleCells.tail }
  let store := store.modify r.key r.version fun q => { q with chain := q.chain ++ [cell], bands := q.bands + 1 }
  let ctx : Context :=
    if next < r.height then
      { c with nextBand := next, deadline := some (deadlineAfter s.now s.link.timing.receive) }
    else { c with state := .completing, nextBand := next, deadline := none }
  let job : WriteJob :=
    { key := r.key, version := r.version, stream := f.tag, cell := cell, width := r.width, nextLine := 0,
      data := f.payload.drop 2 }
  State.requestPort .receive
    (State.setContext f.tag ctx { s with store := store, rx := { s.rx with writer := some job } })

/-- A band frame reaches the Receive Context Unit (R11 to R13, Table 1.3). DEDUCED (log 32): the timestamp of the LINK
condition of an orphan is the time at which it reaches the unit, also when it waited in the holding place. -/
def State.takeBand (f : BandFrame) (s : State) : State :=
  let c := s.context f.tag
  match c.record.bind fun kv => s.store.find kv.1 kv.2 with
  | none => s.raise .link (f.link .orphanBand s.now)
  | some r =>
    if c.state = .idle then s.raise .link (f.link .orphanBand s.now)
    else if f.index < c.nextBand then s
    else if c.nextBand < f.index ∨ c.state = .completing then s.dropRecord r .gap (some f.index) 0
    else if f.payload.length ≠ 2 + r.width * 2048 then s.dropRecord r .length (some f.index) 0
    else s.acceptBand f c r

/-- When the writer is free, the frame in the holding place passes to the Receive Context Unit (R189). -/
def State.passHeld (s : State) : State :=
  match s.rx.writer, s.link.holding with
  | none, some f => State.takeBand f { s with link := { s.link with holding := none } }
  | _, _ => s

/-- A band frame arrives (R189). -/
def State.bandArrives (f : BandFrame) (s : State) : State :=
  match s.link.holding, s.rx.writer with
  | some _, _ => s.raise .link (f.link .bandOverrun s.now)
  | none, none => s.takeBand f
  | none, some _ => { s with link := { s.link with holding := some f } }

/-! ### Completion (R14, R19) -/

/-- The RECEIVING records of a key with a version below `v`, which a completion of `v` overtakes (R19). -/
def Store.overtaken (t : Store) (k : PageKey) (v : Nat) : List PageRecord :=
  t.directory.filter fun r => decide (r.key = k) && decide (r.state = .receiving) && decide (r.version < v)

def State.dropOvertaken (v : Nat) : List PageRecord → State → State
  | [], s => s
  | r :: rs, s => State.dropOvertaken v rs (s.dropRecord r .overtaken none v)

/-- A page completes (R19): the four steps, as one transaction. The next band of its context becomes 0 (DESIGN CHOICE, log
30), and the overtaken versions are dropped in directory order (log 25). -/
def State.completePage (k : PageKey) (v stream : Nat) (s : State) : State :=
  let old := s.store.current k
  let store := s.store.modify k v fun r => { r with state := .current, stream := none }
  let s := State.setContext stream {} { s with store := store }
  let s :=
    match old with
    | none => s
    | some o =>
      { s with store := (s.store.modify k o.version fun r => { r with state := .superseded }).evalFree k o.version }
  let lower := s.store.overtaken k v
  let s := s.dropOvertaken v lower
  { s with store := { s.store with
      notices := s.store.notices ++ [⟨k, v, (old.map PageRecord.version).getD 0, lower.length⟩] } }

/-- A band's write completes (R7, R14): the writer becomes free and the held frame passes on. -/
def State.bandWritten (j : WriteJob) (s : State) : State :=
  let s := { s with rx := { s.rx with writer := none } }
  let c := s.context j.stream
  let s :=
    if c.state = .completing ∧ c.record = some (j.key, j.version) then s.completePage j.key j.version j.stream else s
  s.passHeld

/-- The byte offset in its cell of the line that the writer writes (R5). -/
def WriteJob.offset (j : WriteJob) : Nat := j.nextLine * (j.width * 32)

/-- The receive writer's transfer ends: one line is in the cell (R7). -/
def State.lineWritten (j : WriteJob) (s : State) : State :=
  let bytes := (j.data.drop j.offset).take (j.width * 32)
  let s := { s with store := { s.store with
      memory := Memory.writeBytes s.store.memory (j.cell * Config.cellBytes + j.offset) bytes } }
  if j.nextLine + 1 = Config.bandLines then s.bandWritten j
  else State.requestPort .receive { s with rx := { s.rx with writer := some { j with nextLine := j.nextLine + 1 } } }

/-- The receive deadline of a context expires (R15). -/
def State.receiveExpires (stream : Nat) (s : State) : State :=
  let c := s.context stream
  if c.state = .receiving ∧ dueAt s.now c.deadline then
    match c.record.bind fun kv => s.store.find kv.1 kv.2 with
    | none => s
    | some r => (s.dropRecord r .timeout none 0).passHeld
  else s

/-! ### RESTART (R25) -/

/-- The freeing condition is evaluated for every record of the list (R25 step 4). -/
def Store.evalAll (t : Store) : List PageRecord → Store
  | [] => t
  | r :: rs => (t.evalFree r.key r.version).evalAll rs

def State.discardAll : List PageRecord → State → State
  | [], s => s
  | r :: rs, s => State.discardAll rs (s.discardRecord r)

/-- RESTART's action on pages (R25). DESIGN CHOICE (log 31): the RECEIVING records are dropped, and the others examined for
freeing, in directory order, which fixes the order of their cells in the idle cell list. -/
def State.restartPages (s : State) : State :=
  let s := State.withdrawPort .receive { s with rx := { s.rx with writer := none } }
  let s := State.withdrawPort .b (State.withdrawPort .a s)
  let s := State.discardAll (s.store.directory.filter fun r => decide (r.state = .receiving)) s
  let s := { s with rx := { s.rx with contexts := List.replicate 8 {} } }
  let store : Store :=
    { s.store with directory := s.store.directory.map fun r => { r with refs := 0 }, notices := [] }
  { s with store := store.evalAll store.directory }

end Sys2Proof.Machine
end

