-- ==== Sys2Proof/Machine/Frames.lean ====
section
/-! DEFINITION. The payloads that the server sends (Tables 10.2, 10.5 and 10.7), and the judgment of downstream frames
(R188, R190). -/

namespace Sys2Proof.Machine

/-! ### Payloads -/

/-- A position of MAP LOAD. -/
def posArgsBytes (p : PosArgs) : List Byte := keyBytes p.key ++ be 1 p.rotation ++ be 2 p.x0 ++ be 2 p.y0

/-- The seven settings of IMAGER SET. -/
def settingArgsBytes (a : SettingArgs) : List Byte :=
  be 2 a.d ++ be 2 a.pRev ++ be 4 a.c ++ be 1 a.mult ++ be 1 a.tol ++ be 2 a.g ++ be 1 a.skipLimit

/-- The payload that spells a request (Tables 10.2 and 10.7). -/
def payloadOf : Request → List Byte
  | .pageOpen st k v w h r => be 1 st ++ keyBytes k ++ be 1 v ++ be 1 w ++ be 2 h ++ be 1 r
  | .pageAbandon st => be 1 st
  | .pageRelease k v => keyBytes k ++ be 1 v
  | .mapLoad p z c a ps =>
    plateBytes p ++ be 1 z ++ be 1 c ++ be 1 a ++ be 1 ps.length ++ ps.flatMap posArgsBytes
  | .mapDelete p => plateBytes p
  | .sizeLoad c l x => be 1 c ++ be 2 l ++ be 2 x
  | .plateHold p => plateBytes p
  | .plateRelease p => plateBytes p
  | .lineHold l => be 1 l
  | .lineRelease l => be 1 l
  | .plateCancel p => plateBytes p
  | .replate f p => be 1 f ++ plateBytes p
  | .pressSet p a b fs => be 1 p ++ be 1 a ++ be 1 b ++ fs.flatMap fanBytes
  | .lineAssign l p => be 1 l ++ be 1 p
  | .patternLoad p ds => be 1 p ++ be 1 ds.length ++ ds.flatMap (be 1)
  | .profileLoad p l t => be 1 p ++ be 1 l ++ be 1 t
  | .cartLayout c u a => be 1 c ++ be 1 u ++ be 1 a
  | .windowLoad e lo hi => be 1 e ++ be 2 lo ++ be 2 hi
  | .timingLoad e v => be 1 e ++ be 2 v
  | .sensorSet n e f => be 1 n ++ be 1 e ++ be 1 f
  | .imagerSet i a => be 1 i ++ settingArgsBytes a
  | .stockSet i z c => be 1 i ++ be 1 z ++ be 1 c
  | .imagerClear i => be 1 i
  | .lineStart => []
  | .lineStop => []
  | .lineResume d => be 1 d
  | .reportMask m => be 1 m
  | .queryPage k v => [0] ++ keyBytes k ++ be 1 v
  | .queryPlate p => [1] ++ plateBytes p
  | .queryImager i => [2] ++ be 1 i
  | .queryLine => [3]
  | .queryStore => [4]
  | .restart => []

/-- The bytes of the frame that carries a request (Table 10.1). -/
def requestFrame (t : TaggedRequest) : List Byte := frameBytes (kindOf t.request) t.tag (payloadOf t.request)

/-! ### The judgment of a frame -/

/-- The payload length of a frame's header (R186). -/
def headerLength (bs : List Byte) : Nat := field bs 2 3

/-- The payload of a frame of the right length. -/
def framePayload (bs : List Byte) : List Byte := (bs.drop 5).take (bs.length - 9)

/-- BAD_FRAME (R188). -/
def isBadFrame (bs : List Byte) : Bool :=
  decide (bs.length < 9) || decide (bs.length ≠ 9 + headerLength bs) ||
    (decide (field bs 0 1 = 1) && decide (headerLength bs < 2))

/-- The frame check holds (R186). -/
def goodCheck (bs : List Byte) : Bool := decide (bs.drop (bs.length - 4) = checkBytes (bs.take (bs.length - 4)))

/-- A byte of the header as found, or all ones where the frame is too short (Table 10.8). -/
def headerByte (bs : List Byte) (n : Nat) : Nat := ((bs[n]?).map BitVec.toNat).getD 255

/-- The LINK condition of a discarded frame (R188, Table 10.8). -/
def discardedLink (bs : List Byte) (cause : LinkCause) (now : Nat) : ConditionBody :=
  .link { cause := cause, kind := headerByte bs 0, tag := headerByte bs 1, band := none, time := now }

/-- A request frame with a good check is judged (R190). -/
def State.requestArrives (kind tag : Nat) (payload : List Byte) (s : State) : State :=
  if !knownKind kind then s.replyAtOnce tag kind .unknown
  else if payloadLength kind payload ≠ some payload.length then s.replyAtOnce tag kind .range
  else if Config.maxRequests ≤ s.link.requests.length then s.replyAtOnce tag kind .busy
  else { s with link := { s.link with requests := s.link.requests ++ [⟨tag, requestOf kind payload⟩] } }

/-- A downstream frame arrives: the bytes between its delimiters are judged (R188). -/
def State.frameArrives (bs : List Byte) (s : State) : State :=
  if isBadFrame bs then s.raise .link (discardedLink bs .badFrame s.now)
  else if !goodCheck bs then s.raise .link (discardedLink bs .badCheck s.now)
  else if field bs 0 1 = 1 then s.bandArrives ⟨field bs 1 1, framePayload bs⟩
  else s.requestArrives (field bs 0 1) (field bs 1 1) (framePayload bs)

end Sys2Proof.Machine
end

