-- ==== Sys2Proof/Machine/Swath.lean ====
section
/-! DEFINITION. Swath composition and fan-out compensation (chapter 4): plate geometry, the line index, placement and
clipping, the segments read from the raster store, and the swath buffers. -/

namespace Sys2Proof.Machine

/-! ### Geometry (R74 to R83) -/

/-- N = ceil(L / 32) (R74). -/
def swathCount (l : Nat) : Nat := (l + 31) / 32

/-- The line delta of R76: H × f / 1,000,000 rounded to the nearest integer, halves away from zero. -/
def lineDelta (h : Nat) (f : Int) : Int :=
  let p : Int := (h : Int) * f
  if 0 ≤ p then (2 * p + 1000000) / 2000000 else -((2 * (-p) + 1000000) / 2000000)

/-- The target line count T = H + delta (R76). -/
def targetLines (h : Nat) (f : Int) : Nat := ((h : Int) + lineDelta h f).toNat

/-- The centred line index s(k) (R77). -/
def lineIndex (h t k : Nat) : Nat := (2 * k + 1) * h / (2 * t)

/-- The source line of output line k (R78). -/
def sourceLine (rotated : Bool) (h t k : Nat) : Nat := if rotated then h - 1 - lineIndex h t k else lineIndex h t k

/-- The page pixel that lands at the n-th plate pixel of a placement (R78, R79). -/
def pagePixel (rotated : Bool) (w n : Nat) : Nat := if rotated then w - 1 - n else n

/-- V of R83: the page pixels that land inside the plate around. -/
def segmentPixels (w x x0 : Nat) : Nat := if x0 < x then min w (x - x0) else 0

/-- The CLIPPED flag of a placement (R80). -/
def isClipped (l x w t x0 y0 : Nat) : Bool := decide (l < y0 + t) || decide (x < x0 + w)

/-- The placement of a bound page record at a position, with the values computed at job start (R85). -/
def placementOf (size : Size) (fan : Int) (r : PageRecord) (p : Position) : Placement :=
  let w := 256 * r.width
  let h := 64 * r.height
  let t := targetLines h fan
  { width := r.width, chain := r.chain, rotated := p.rotated, x0 := p.x0, y0 := p.y0, w := w, h := h, t := t,
    v := segmentPixels w size.x p.x0, clipped := isClipped size.l size.x w t p.x0 p.y0 }

/-- The job of a build (R85): a BLANK position, and one whose record is not in the directory, is none. -/
def jobOf (t : Store) (size : Size) (fan : Int) (ps : List Position) (bs : List Binding) : Job :=
  { l := size.l, x := size.x, fan := fan, n := swathCount size.l,
    positions := (ps.zip bs).map fun pb =>
      match pb.2 with
      | .bound k v => (t.find k v).map fun r => placementOf size fan r pb.1
      | _ => none }

/-- The CLIPPED flags, one for each position (R80, R92). -/
def Job.clippedFlags (j : Job) : List Bool :=
  j.positions.map fun p => match p with
    | some q => q.clipped
    | none => false

/-! ### Transfers (R83, R84, R87) -/

/-- The placement that takes part at a place (beam × 4 + position) of a swath, and the plate line: present when the
place makes a transfer (R83, R87). -/
def Job.transferAt (j : Job) (swath place : Nat) : Option (Placement × Nat) :=
  let y := 32 * swath + place / 4
  match j.positions.getD (place % 4) none with
  | none => none
  | some p => if y < j.l ∧ p.y0 ≤ y ∧ y < p.y0 + p.t ∧ 0 < p.v then some (p, y) else none

/-- The first place at or after `from_` that makes a transfer, in the order beam 0 to 31 and, for each beam, position
0 to 3 (R84). -/
def Job.nextPlace (j : Job) (swath from_ : Nat) : Option Nat :=
  (List.range 128).find? fun n => decide (from_ ≤ n) && (j.transferAt swath n).isSome

/-- Where a transfer reads: the cell, the byte offset of the source line in it and the bytes of the line (R82). -/
def Placement.lineAt (p : Placement) (y : Nat) : Nat × Nat :=
  let j := sourceLine p.rotated p.h p.t (y - p.y0)
  (p.chain.getD (j / Config.bandLines) 0, (j % Config.bandLines) * p.width * 32)

/-- Pixel `i` of the raster line that begins at address `a`: most significant bit first, a 1 bit turns the beam on
(R79). -/
def pixelAt (m : List Host.Cell) (a i : Nat) : Bool := (Memory.read m (a + i / 8)).getLsbD (7 - i % 8)

/-- The first byte of the line that the segment reads, and the number of bytes (R83). -/
def Placement.segmentBytes (p : Placement) : Nat × Nat :=
  if p.rotated then ((p.w - p.v) / 8, p.w / 8 - (p.w - p.v) / 8) else (0, (p.v - 1) / 8 + 1)

/-- The segment of the source line at address `a`, laid down at its plate pixels (R83): bit x for plate pixel x. -/
def Placement.segment (p : Placement) (m : List Host.Cell) (a : Nat) : Nat :=
  (List.range p.v).foldl
    (fun row n => if pixelAt m a (pagePixel p.rotated p.w n) then row ||| (1 <<< (p.x0 + n)) else row) 0

/-! ### Buffers and fills (R86 to R90) -/

def Composer.buffer (c : Composer) (n : Nat) : Buffer := if n = 0 then c.buf0 else c.buf1

def Composer.setBuffer (c : Composer) (n : Nat) (b : Buffer) : Composer :=
  if n = 0 then { c with buf0 := b } else { c with buf1 := b }

/-- The FREE buffer with the lower number (R87). -/
def Composer.freeBuffer (c : Composer) : Option Nat :=
  if c.buf0.state = .free then some 0 else if c.buf1.state = .free then some 1 else none

/-- The buffer that holds swath `n` FULL (R89). -/
def Composer.fullBuffer (c : Composer) (n : Nat) : Option Nat :=
  if c.buf0.state = .full ∧ c.buf0.swath = n then some 0
  else if c.buf1.state = .full ∧ c.buf1.swath = n then some 1
  else none

/-- A fill starts when the conditions of R87 hold; a fill with no transfers completes at its start (R88). Whether the
store port is to be requested is the second result. -/
def Composer.startFill (c : Composer) : Composer × Bool :=
  match c.job, c.fill, c.freeBuffer with
  | some j, none, some n =>
    if c.nextFill < j.n then
      let b : Buffer := { state := .filling, swath := c.nextFill, rows := List.replicate 32 0 }
      let c' := { c with nextFill := c.nextFill + 1 }
      match j.nextPlace c.nextFill 0 with
      | some place => ({ c'.setBuffer n b with fill := some ⟨n, c.nextFill, place⟩ }, true)
      | none => (c'.setBuffer n { b with state := .full }, false)
    else (c, false)
  | _, _, _ => (c, false)

/-- Fills start as long as they can: at most one for each buffer (R87, R88). -/
def Composer.startFills (c : Composer) : Composer × Bool :=
  let r := c.startFill
  if r.2 then r else r.1.startFill

/-- A transfer of the fill ends: its segment is combined into its beam's row (R81, R88), and the fill goes on to its
next place or completes; then the next fill may start. -/
def Composer.transferEnd (c : Composer) (m : List Host.Cell) : Composer × Bool :=
  match c.job, c.fill with
  | some j, some f =>
    let b := c.buffer f.buffer
    let b :=
      match j.transferAt f.swath f.place with
      | none => b
      | some (p, y) =>
        let at_ := p.lineAt y
        let seg := p.segment m (at_.1 * Config.cellBytes + at_.2)
        { b with rows := b.rows.set (f.place / 4) (b.rows.getD (f.place / 4) 0 ||| seg) }
    match j.nextPlace f.swath (f.place + 1) with
    | some place => ({ c.setBuffer f.buffer b with fill := some { f with place := place } }, true)
    | none => ({ c.setBuffer f.buffer { b with state := .full } with fill := none }).startFills
  | _, _ => (c, false)

/-- Every byte that the transfer in progress reads lies inside its cell and the store. -/
def Composer.transferInside (c : Composer) : Bool :=
  match c.job, c.fill with
  | some j, some f =>
    match j.transferAt f.swath f.place with
    | none => true
    | some (p, y) => insideStore (p.lineAt y).1 ((p.lineAt y).2 + p.segmentBytes.1) p.segmentBytes.2
  | _, _ => true

/-- A job starts (R85). -/
def Composer.start (c : Composer) (j : Job) : Composer × Bool :=
  ({ c with job := some j, nextFill := 0, nextEmit := 0 }).startFills

/-- The buffer of the next swath to emit becomes EMITTING (R89). -/
def Composer.emit (c : Composer) (n : Nat) : Composer := c.setBuffer n { c.buffer n with state := .emitting }

/-- The emission of a swath ends: its buffer becomes FREE, and a fill may start (R89). -/
def Composer.emitted (c : Composer) (n : Nat) : Composer × Bool :=
  ({ c.setBuffer n { c.buffer n with state := .free } with nextEmit := c.nextEmit + 1 }).startFills

/-- The job ends (R90). -/
def Composer.endJob (c : Composer) : Composer :=
  { c with job := none, fill := none, nextFill := 0, nextEmit := 0, buf0 := { c.buf0 with state := .free },
           buf1 := { c.buf1 with state := .free } }

/-! ### The composer of a channel -/

def State.channel (s : State) (i : Imager) : Channel := s.chan.get i

def State.setChannel (i : Imager) (c : Channel) (s : State) : State := { s with chan := s.chan.set i c }

/-- Imager `i`'s composer takes a new value, and requests the store port if it is told to (R88). -/
def State.putComposer (i : Imager) (r : Composer × Bool) (s : State) : State :=
  let s := s.setChannel i { s.channel i with composer := r.1 }
  if r.2 then s.requestPort (Requester.ofImager i) else s

/-- The job of imager `i`'s composer ends (R90): a fill in progress is abandoned. -/
def State.endJob (i : Imager) (s : State) : State :=
  (s.setChannel i { s.channel i with composer := (s.channel i).composer.endJob }).withdrawPort (Requester.ofImager i)

/-- A transfer of imager `i`'s composer ends (R88). -/
def State.segmentRead (i : Imager) (s : State) : State :=
  s.putComposer i ((s.channel i).composer.transferEnd s.store.memory)

/-! ### Beam lanes (R103, R109) -/

/-- Beam lane `b` of imager `i` at the present reference tick: DRIVEN in a writing revolution, at the pixels
G .. G + X - 1, where the swath's beam value is 1 (R103, R109); RELEASED while reset is asserted (R104). The period
counter is the ticks since the index. -/
def State.beamLane (s : State) (i : Imager) (b : Nat) : Bool :=
  let c := s.channel i
  match c.seq.revolution, c.composer.job with
  | some (.writing n), some j =>
    let pixel := c.drum.period / (2 * (c.settings.d + 1))
    !s.resetAsserted && decide (c.seq.state = .exposing) && c.seq.emissionPending && decide (c.settings.g ≤ pixel) &&
      decide (pixel < c.settings.g + j.x) &&
      ((c.composer.buffer n).rows.getD b 0).testBit (pixel - c.settings.g)
  | _, _ => false

end Sys2Proof.Machine
end

