-- ==== Sys2Proof/Machine/Composer.lean ====
section
/-! DEFINITION. Imposition and the Plate Build Table (chapter 2): entries, builds, the build-need check, the pending
list, rebinding, removal, delivery notices; and the exposure queue (R57, R58). -/

namespace Sys2Proof.Machine

/-! ### Entries and current plates (R28, R36) -/

def State.entry (s : State) (p : PlateId) : Option MapEntry := s.plates.map.find? fun e => decide (e.id = p)

/-- Insert or replace an entry; the map is held in plate id order (R26). -/
def putEntry (e : MapEntry) : List MapEntry → List MapEntry
  | [] => [e]
  | f :: fs => if e.id = f.id then e :: fs else if plateBefore e.id f.id then e :: f :: fs else f :: putEntry e fs

def State.modifyEntry (p : PlateId) (f : MapEntry → MapEntry) (s : State) : State :=
  { s with plates := { s.plates with map := s.plates.map.map fun e => if e.id = p then f e else e } }

/-- The build of a plate id that is current (R36). -/
def State.currentBuild (s : State) (p : PlateId) : Option Build :=
  s.plates.builds.find? fun b => decide (b.plate = p) && decide (b.cause = .none_)

/-- The line item of a plate id that is current (R36). -/
def State.currentItem (s : State) (p : PlateId) : Option Item :=
  s.line.items.find? fun it => decide (it.plate = p) && decide (it.cause = .none_)

/-- The plate id has a current plate (R36). -/
def State.hasCurrentPlate (s : State) (p : PlateId) : Bool := (s.currentBuild p).isSome || (s.currentItem p).isSome

/-! ### Builds (R34, R40, R57) -/

def State.build (s : State) (bid : Nat) : Option Build := s.plates.builds.find? fun b => decide (b.bid = bid)

def State.modifyBuild (bid : Nat) (f : Build → Build) (s : State) : State :=
  { s with plates := { s.plates with builds := s.plates.builds.map fun b => if b.bid = bid then f b else b } }

/-- The lowest-numbered free record of the Plate Build Table (R34). -/
def Plates.freeRecord (t : Plates) : Option Nat :=
  (List.range Config.maxBuilds).find? fun n => t.builds.all fun b => decide (b.bid ≠ n)

/-- The records in use are held in build id order. -/
def insertBuild (b : Build) : List Build → List Build
  | [] => [b]
  | c :: cs => if b.bid < c.bid then b :: c :: cs else c :: insertBuild b cs

/-- The class of a plate id's map entry (Table 2.1). -/
def State.classOfPlate (s : State) (p : PlateId) : Nat := ((s.entry p).map MapEntry.cls).getD 0

/-- The class of a build: that of its map entry (R57). -/
def State.classOf (s : State) (bid : Nat) : Nat := ((s.build bid).map fun b => s.classOfPlate b.plate).getD 0

/-- Insert a build id before the first that `before` holds of. -/
def insertBefore (before : Nat → Bool) (bid : Nat) : List Nat → List Nat
  | [] => [bid]
  | b :: bs => if before b then bid :: b :: bs else b :: insertBefore before bid bs

/-- A build joins the exposure queue after every build of its class (R57); a dispatch pass is owed (R66). -/
def State.joinQueue (bid : Nat) (s : State) : State :=
  { s with
    passOwed := true,
    plates := { s.plates with
      queue := insertBefore (fun b => decide (s.classOf bid < s.classOf b)) bid s.plates.queue } }

/-- A build returns to the exposure queue before every build of its class (R58); a dispatch pass is owed (R66). -/
def State.rejoinQueue (bid : Nat) (s : State) : State :=
  { s with
    passOwed := true,
    plates := { s.plates with
      queue := insertBefore (fun b => decide (s.classOf bid ≤ s.classOf b)) bid s.plates.queue } }

/-- The binding of a position at build creation (R40 step 3); `work` is the key and version of the completion notice
being worked (R20). -/
def bindPosition (t : Store) (work : Option (PageKey × Nat)) (q : Position) : Binding :=
  match q.key with
  | none => .blank
  | some k =>
    match t.current k with
    | none => .waiting
    | some r =>
      match work with
      | some (k', v) => if k' = k then .bound k v else .bound k r.version
      | none => .bound k r.version

/-- A build is created for an entry on the free record `bid` (R40). -/
def State.createBuild (e : MapEntry) (work : Option (PageKey × Nat)) (bid : Nat) (s : State) : State :=
  let gen := (e.generation + 1) % 256
  let bindings := e.positions.map (bindPosition s.store work)
  let waiting := bindings.any fun b => decide (b = .waiting)
  let b : Build :=
    { bid := bid, plate := e.id, generation := gen, state := if waiting then .open_ else .ready, cause := .none_,
      bindings := bindings, imager := none, press := none, fan := none, size := none }
  let s := s.modifyEntry e.id fun f => { f with generation := gen }
  let s := { s with plates := { s.plates with builds := insertBuild b s.plates.builds },
                    store := s.store.addRefs bindings }
  if waiting then s else s.joinQueue bid

/-! ### The build-need check and the pending list (R38, R41, R42) -/

/-- The position has a CURRENT record of its key above its imaged version (R38). -/
def Position.inNeed (t : Store) (q : Position) : Bool :=
  match q.key with
  | none => false
  | some k =>
    match t.current k with
    | none => false
    | some r => decide (q.imaged < r.version)

/-- The entry needs a build (R38). -/
def State.needsBuild (s : State) (e : MapEntry) : Bool :=
  !s.hasCurrentPlate e.id && e.positions.any fun q => q.inNeed s.store

def State.leavePending (p : PlateId) (s : State) : State :=
  { s with plates := { s.plates with pendingList := s.plates.pendingList.filter fun q => decide (q ≠ p) } }

def State.joinPending (p : PlateId) (s : State) : State :=
  if p ∈ s.plates.pendingList then s
  else { s with plates := { s.plates with pendingList := s.plates.pendingList ++ [p] } }

/-- The build-need check of a plate id's entry (R38). -/
def State.needCheck (p : PlateId) (work : Option (PageKey × Nat)) (s : State) : State :=
  match s.entry p with
  | none => s
  | some e =>
    if s.needsBuild e then
      match s.plates.freeRecord with
      | some bid => (s.createBuild e work bid).leavePending p
      | none => s.joinPending p
    else s.leavePending p

/-- The build-need checks of several plate ids, in the order given. -/
def State.needChecks : List PlateId → State → State
  | [], s => s
  | p :: ps, s => State.needChecks ps (s.needCheck p none)

/-- The pending list is worked, oldest first, until a build is created (R42). -/
def State.workPendingFrom : List PlateId → State → State
  | [], s => s
  | p :: ps, s =>
    let s' := (s.leavePending p).needCheck p none
    if s.plates.builds.length < s'.plates.builds.length then s' else State.workPendingFrom ps s'

/-- A build record has become free: the pending list is worked (R42). -/
def State.workPending (s : State) : State := s.workPendingFrom s.plates.pendingList

/-- A build's record becomes free (R51, R56): its bindings are not given up here. -/
def State.freeBuild (bid : Nat) (s : State) : State :=
  { s with plates := { s.plates with builds := s.plates.builds.filter (fun b => decide (b.bid ≠ bid)),
                                     queue := s.plates.queue.filter fun n => decide (n ≠ bid) } }

/-- A build is removed from the table (R50, R52): its positions are unbound, its record is free and the pending list
is worked. -/
def State.removeBuild (b : Build) (s : State) : State :=
  let s := s.freeBuild b.bid
  let s := { s with store := s.store.dropRefs b.bindings }
  s.workPending

/-- An imager has given up its build at a fault (R50, R58). -/
def State.giveUpBuild (bid : Nat) (s : State) : State :=
  match s.build bid with
  | none => s
  | some b =>
    if b.cause = .none_ then
      (s.modifyBuild bid fun b => { b with state := .ready, imager := none, press := none, fan := none, size := none })
        |>.rejoinQueue bid
    else s.removeBuild b

/-! ### Rebinding (R44) -/

/-- One position of a build is brought up to version `v` of key `k`. -/
def rebindPosition (k : PageKey) (v : Nat) (q : Position) (b : Binding) (t : Store) : Binding × Store :=
  if q.key = some k then
    match b with
    | .bound _ old => if old < v then (.bound k v, (t.dropRef k old).addRef k v) else (b, t)
    | .waiting => (.bound k v, t.addRef k v)
    | .blank => (b, t)
  else (b, t)

def rebindPositions (k : PageKey) (v : Nat) : List Position → List Binding → Store → List Binding × Store
  | q :: qs, b :: bs, t =>
    let r := rebindPosition k v q b t
    let rest := rebindPositions k v qs bs r.2
    (r.1 :: rest.1, rest.2)
  | _, bs, t => (bs, t)

/-- A current OPEN or READY build is brought up to the new version in place (R44). -/
def State.rebindBuild (e : MapEntry) (b : Build) (k : PageKey) (v : Nat) (s : State) : State :=
  let r := rebindPositions k v e.positions b.bindings s.store
  let becomesReady := decide (b.state = .open_) && !(r.1.any fun x => decide (x = .waiting))
  let s := { s with store := r.2 }
  let s := s.modifyBuild b.bid fun b =>
    { b with bindings := r.1, state := if becomesReady then .ready else b.state }
  if becomesReady then s.joinQueue b.bid else s

/-! ### Delivery (R32) -/

/-- A position's imaged version after a delivery with the binding `b` at its place. -/
def Position.delivered (q : Position) (b : Binding) : Position :=
  match b with
  | .bound k v => if q.key = some k ∧ q.imaged < v then { q with imaged := v } else q
  | _ => q

def deliverPositions : List Position → List Binding → List Position
  | q :: qs, b :: bs => q.delivered b :: deliverPositions qs bs
  | qs, _ => qs

/-- The delivery notice of a plate (R32). -/
def State.deliver (p : PlateId) (bindings : List Binding) (s : State) : State :=
  s.modifyEntry p fun e => { e with positions := deliverPositions e.positions bindings }

/-- Every imaged version of an entry becomes 0 (R54). -/
def State.clearImaged (p : PlateId) (s : State) : State :=
  s.modifyEntry p fun e => { e with positions := e.positions.map fun q => { q with imaged := 0 } }

/-- REPLATE's treatment of a list of plate ids, in order (R54). -/
def State.replateAll : List PlateId → State → State
  | [], s => s
  | p :: ps, s => State.replateAll ps ((s.clearImaged p).needCheck p none)

end Sys2Proof.Machine
end

