-- ==== Sys2Proof/Machine/Sequencer.lean ====
section
/-! DEFINITION. Drum timing and exposure (chapter 6): the Imager Sequencer's phases, the end of an exposure, the
retirement of the held build, faults. -/

namespace Sys2Proof.Machine

def State.modifySeq (i : Imager) (f : Sequencer → Sequencer) (s : State) : State :=
  s.setChannel i { s.channel i with seq := f (s.channel i).seq }

def State.modifyOut (i : Imager) (f : ImagerOut → ImagerOut) (s : State) : State :=
  s.setChannel i { s.channel i with out := f (s.channel i).out }

/-! ### End of exposure (R124, R49) -/

/-- The end kinds that are FAULTY (R124). -/
def EndKind.faulty : EndKind → Bool
  | .complete => false
  | .skipLimit => true
  | .truncated => true
  | .stopped => false
  | .stalled => true

/-- The Plate Composer is told of the end of exposure of a build (R49, R124 step 3). -/
def State.buildExits (bid : Nat) (faulty : Bool) (s : State) : State :=
  match s.build bid with
  | none => s
  | some b =>
    if faulty = true ∧ b.cause = .none_ then
      (s.modifyBuild bid fun b => { b with state := .exiting, cause := .faulty }).needCheck b.plate none
    else s.modifyBuild bid fun b => { b with state := .exiting }

/-- An exit request is offered to the Merge Arbiter (R124 step 4, R136). -/
def State.offerExit (i : Imager) (cls : Nat) (s : State) : State :=
  { s with line := { s.line with merge := { s.line.merge with requests := s.line.merge.requests ++ [⟨i, cls⟩] } } }

/-- The content of PLATE EXPOSED (Table 6.6), from the channel before the end and the build after step 3 of R124. -/
def exposedReport (i : Imager) (kind : EndKind) (c : Channel) (b : Build) (now : Nat) : PlateExposed :=
  { plate := b.plate, generation := b.generation, imager := i, kind := kind, cause := b.cause,
    count := (c.composer.job.map Job.n).getD 0, written := c.seq.written, skipped := c.seq.skipped,
    clipped := (c.composer.job.map Job.clippedFlags).getD [], time := now }

/-- An exposure ends (R124): the five steps, as one transaction. DEDUCED (log 34): a carriage step pulse in progress runs
on to its end (R102); step 1 names only DRUM_RUN and the beams. DEDUCED (log 38): emission pending is cleared at every end,
since the emission end that would clear it is disregarded once the job has ended (R121). -/
def State.endExposure (i : Imager) (kind : EndKind) (s : State) : State :=
  let c := s.channel i
  let bid := c.seq.build.getD Config.maxBuilds
  let s := s.modifyOut i fun o => { o with drumRun := false }
  let s := s.endJob i
  let s := s.buildExits bid kind.faulty
  let s := s.modifySeq i fun q =>
    { q with state := .exitWait, loadDeadline := none, spinDeadline := none, revolution := none,
             emissionPending := false, stepDue := false }
  match s.build bid with
  | none => s
  | some b => (s.offerExit i (s.classOfPlate b.plate)).offer (.plateExposed (exposedReport i kind c b s.now))

/-- The Imager Sequencer is told that the build it holds has been retired (R123). -/
def State.retireHeld (i : Imager) (s : State) : State :=
  let s := s.modifySeq i fun q => { q with retired := true }
  match (s.channel i).seq.state with
  | .spinup => s.endExposure i .stopped
  | .exposing => if (s.channel i).seq.emissionPending then s else s.endExposure i .stopped
  | _ => s

/-! ### Loading and spin-up (R114 to R117) -/

/-- Entry into LOADING with the build `bid` and its job (R114). -/
def State.enterLoading (i : Imager) (bid : Nat) (j : Job) (s : State) : State :=
  let s := s.modifyOut i fun o => { o with load := true }
  let s := s.modifySeq i fun q =>
    { q with state := .loading, build := some bid, retired := false,
             loadDeadline := some (deadlineAfter s.now s.link.timing.load), skipRun := 0, skipped := 0, steps := 0,
             written := 0 }
  s.putComposer i ((s.channel i).composer.start j)

/-- Entry into SPINUP (R116): DRUM_RUN is driven, which sets the first-index flag (R111). -/
def State.enterSpinup (i : Imager) (s : State) : State :=
  let c := s.channel i
  s.setChannel i { c with
    out := { c.out with drumRun := true },
    drum := { c.drum with first := true },
    seq := { c.seq with state := .spinup, validRun := 0,
                        spinDeadline := some (deadlineAfter s.now s.link.timing.spinup) } }

/-- A CLAMP arrival is taken by the Imager Sequencer (R114); outside LOADING it is disregarded. -/
def State.clamped (i : Imager) (s : State) : State :=
  let q := (s.channel i).seq
  if q.state = .loading then
    let s := s.modifyOut i fun o => { o with load := false }
    let s := s.modifySeq i fun q => { q with loadDeadline := none }
    if q.retired then s.endExposure i .stopped else s.enterSpinup i
  else s

/-! ### Faults (R115, R117, R127) -/

/-- The imager enters FAULT: outputs released, job ended, no build, the fault record, the IMAGER condition (R127).
DEDUCED (log 38): emission pending and step due are cleared, which only a RESTART can find set. -/
def State.enterFault (i : Imager) (cause : FaultCause) (plate : Option (PlateId × Nat)) (s : State) : State :=
  let c := s.channel i
  let f : FaultRecord := { cause := cause, plate := plate, left := c.seq.state, time := s.now }
  let s := s.setChannel i { c with
    out := { ImagerOut.released with stepStart := c.out.stepStart },
    seq := { c.seq with state := .fault, build := none, loadDeadline := none, spinDeadline := none,
                        revolution := none, emissionPending := false, stepDue := false, fault := some f } }
  (s.endJob i).raise (Source.imager i) (.imager f)

/-- The plate id and generation of the build that an imager holds, read from a build table. -/
def heldPlate (builds : List Build) (q : Sequencer) : Option (PlateId × Nat) :=
  q.build.bind fun bid => (builds.find? fun b => decide (b.bid = bid)).map fun b => (b.plate, b.generation)

/-- The imager faults and gives up its build (R115, R117). -/
def State.faultAndGiveUp (i : Imager) (cause : FaultCause) (s : State) : State :=
  let q := (s.channel i).seq
  let s := s.enterFault i cause (heldPlate s.plates.builds q)
  match q.build with
  | none => s
  | some bid => s.giveUpBuild bid

/-- The load deadline expires (R115). -/
def State.loadExpires (i : Imager) (s : State) : State :=
  let q := (s.channel i).seq
  if q.state = .loading ∧ dueAt s.now q.loadDeadline then s.faultAndGiveUp i .loadTimeout else s

/-- The spin-up deadline expires (R117). -/
def State.spinupExpires (i : Imager) (s : State) : State :=
  let q := (s.channel i).seq
  if q.state = .spinup ∧ dueAt s.now q.spinDeadline then s.faultAndGiveUp i .spinupTimeout else s

/-! ### Exposing (R118 to R122) -/

/-- The write-or-skip decision of the revolution that begins (R118 step 3, R122). -/
def State.writeOrSkip (i : Imager) (valid : Bool) (s : State) : State :=
  let c := s.channel i
  match c.composer.fullBuffer c.composer.nextEmit, valid with
  | some n, true =>
    s.setChannel i { c with
      composer := c.composer.emit n,
      seq := { c.seq with revolution := some (.writing n), emissionPending := true, skipRun := 0 } }
  | _, _ =>
    let q := { c.seq with revolution := some .skipped, skipRun := c.seq.skipRun + 1,
                          skipped := saturate16 c.seq.skipped }
    let s := s.setChannel i { c with seq := q }
    if c.settings.skipLimit ≤ q.skipRun then s.endExposure i .skipLimit else s

/-- A carriage step is ordered (R119). -/
def State.orderStep (i : Imager) (s : State) : State :=
  let c := s.channel i
  s.setChannel i { c with
    out := { c.out with step := true, stepStart := s.clock.ref },
    seq := { c.seq with stepDue := false, steps := c.seq.steps + 1 } }

/-- An index taken in EXPOSING (R118): truncation, carriage step, write or skip. DEDUCED (log 37): when the step falls due
during the pulse of the previous one (R119), the swath just written stays among the swaths written. -/
def State.exposingIndex (i : Imager) (valid : Bool) (s : State) : State :=
  let c := s.channel i
  if c.seq.emissionPending then s.endExposure i .truncated
  else if c.seq.stepDue then
    if c.out.step then s.endExposure i .truncated else (s.orderStep i).writeOrSkip i valid
  else s.writeOrSkip i valid

/-- SPINUP completes (R116): the build is EXPOSING, and the index is taken again as the first of EXPOSING. -/
def State.spinupCompletes (i : Imager) (s : State) : State :=
  let bid := (s.channel i).seq.build.getD Config.maxBuilds
  let s := s.modifySeq i fun q =>
    { q with state := .exposing, spinDeadline := none, revolution := none, emissionPending := false, stepDue := false }
  let s := s.modifyBuild bid fun b => { b with state := .exposing }
  s.exposingIndex i true

/-- An index taken in SPINUP (R116). -/
def State.spinupIndex (i : Imager) (valid : Bool) (s : State) : State :=
  let run := if valid then (s.channel i).seq.validRun + 1 else 0
  let s := s.modifySeq i fun q => { q with validRun := run }
  if Config.spinupRuns ≤ run then s.spinupCompletes i else s

/-- An index of imager `i`'s drum (R107): measured and judged in every state, then taken by the Imager Sequencer. A phase
transition of the same sample is counted first when the sender gives it first, as log 14 asks. -/
def State.indexPulse (i : Imager) (s : State) : State :=
  let c := s.channel i
  let d := c.drum.index c.settings
  let s := s.setChannel i { c with drum := d }
  match c.seq.state with
  | .spinup => s.spinupIndex i d.judgment.isNone
  | .exposing => s.exposingIndex i d.judgment.isNone
  | _ => s

/-- The emission of the swath has reached its end (R109). -/
def Channel.emissionOver (c : Channel) : Bool :=
  match c.composer.job with
  | none => false
  | some j => decide (c.settings.emissionTicks j.x ≤ c.drum.period)

/-- An emission end (R120). DEDUCED (log 33): the last swath's emission ends the exposure COMPLETE also when the build has
been retired, since R120's first case comes before the one of R123. -/
def State.emissionEnds (i : Imager) (s : State) : State :=
  let c := s.channel i
  match c.seq.revolution with
  | some (.writing n) =>
    if c.seq.state = .exposing ∧ c.seq.emissionPending ∧ c.emissionOver then
      let s := s.modifySeq i fun q => { q with emissionPending := false, written := q.written + 1 }
      let s := s.putComposer i ((s.channel i).composer.emitted n)
      let d := s.channel i
      if d.composer.nextEmit = (d.composer.job.map Job.n).getD 0 then s.endExposure i .complete
      else if d.seq.retired then s.endExposure i .stopped
      else s.modifySeq i fun q => { q with stepDue := true }
    else s
  | _ => s

/-- The carriage step pulse ends 4,800 ticks after it began (R102). -/
def State.pulseEnds (i : Imager) (s : State) : State :=
  let o := (s.channel i).out
  if o.step ∧ o.stepStart + Config.stepPulse ≤ s.clock.ref then s.modifyOut i fun o => { o with step := false } else s

/-- The period counter saturates in EXPOSING (R118). -/
def State.stalls (i : Imager) (s : State) : State :=
  let c := s.channel i
  if c.seq.state = .exposing ∧ c.drum.period = Config.saturated then s.endExposure i .stalled else s

/-- The imager leaves UNLOADING for IDLE (R126); a dispatch pass is owed (R66). -/
def State.unloaded (i : Imager) (s : State) : State :=
  if (s.channel i).seq.state = .unloading then
    { (s.modifyOut i fun o => { o with eject := false }).modifySeq i fun q => { q with state := .idle, build := none } with
      passOwed := true }
  else s

/-! ### RESTART (R130) -/

/-- RESTART's action on an imager, with the build table that it held before the RESTART emptied it (log 18). -/
def State.restartImager (i : Imager) (builds : List Build) (s : State) : State :=
  let q := (s.channel i).seq
  match q.state with
  | .idle => s
  | .fault => s
  | _ => s.enterFault i .restartWithPlate (heldPlate builds q)

end Sys2Proof.Machine
end

