-- ==== Sys2Proof/Machine/Schedule.lean ====
section
/-! DEFINITION. Exposure scheduling (chapter 3): eligibility, the dispatch pass, dispatch; and how an event is taken: its
own effects, then the dispatch pass that it calls for, then the choice of an upstream frame. -/

namespace Sys2Proof.Machine

/-- The blocking reasons of R65, in its order. -/
inductive Block where
  | queue | plateHold | lineHold | unassigned | affinity | stockEmpty | stockSize | drum
  deriving DecidableEq, Repr

/-- The affinity admits the imager (R65). -/
def Affinity.admits : Affinity → Imager → Bool
  | .any, _ => true
  | .a, .a => true
  | .b, .b => true
  | _, _ => false

/-- The press that the Line Assignment holds for a logical line (R61). -/
def State.assigned (s : State) (line : Nat) : Option Nat := s.sched.assignment.getD line none

def State.lineHeld (s : State) (line : Nat) : Bool := s.sched.lineHolds.getD line false

/-- A code of the Plate Size Table (R27). -/
def State.sizeOf (s : State) (code : Nat) : Option Size := s.plates.sizes.getD code none

/-- The Press Table entry of a press (R157). -/
def State.press (s : State) (n : Nat) : Option Press := s.punch.presses.getD n none

/-- The build is READY and in the exposure queue (R65). -/
def State.queued (s : State) (b : Build) : Bool := decide (b.bid ∈ s.plates.queue)

/-- The first condition of R65 that fails for the build and the imager; none when the build is eligible. -/
def State.blocking (s : State) (i : Imager) (b : Build) : Option Block :=
  match s.entry b.plate with
  | none => some .queue
  | some e =>
    let stock := s.sched.stock.get i
    let t := (s.channel i).settings
    if !s.queued b then some .queue
    else if e.hold then some .plateHold
    else if s.lineHeld b.plate.line then some .lineHold
    else if (s.assigned b.plate.line).isNone then some .unassigned
    else if !e.affinity.admits i then some .affinity
    else if stock.count = 0 then some .stockEmpty
    else if stock.size ≠ e.size then some .stockSize
    else
      match s.sizeOf e.size with
      | none => some .drum
      | some z => if t.g + z.x ≤ t.pRev then none else some .drum

/-- The build is eligible for the imager (R65). -/
def State.eligible (s : State) (i : Imager) (bid : Nat) : Bool :=
  match s.build bid with
  | none => false
  | some b => decide (s.blocking i b = none)

/-- The waiting builds of the STOCK condition (Table 3.1). -/
def State.waitingBuilds (s : State) (i : Imager) : Nat :=
  s.plates.queue.countP fun bid =>
    match (s.build bid).bind fun b => s.entry b.plate with
    | none => false
    | some e => decide (e.size = (s.sched.stock.get i).size) && e.affinity.admits i

/-- Dispatch of a build to an imager (R68): the eight steps, as one transaction. -/
def State.dispatchBuild (i : Imager) (b : Build) (e : MapEntry) (s : State) : State :=
  let press := s.assigned b.plate.line
  let fan := ((press.bind s.press).map fun p => p.fans.getD b.plate.across 0).getD 0
  let size := (s.sizeOf e.size).getD ⟨0, 0⟩
  let s : State := { s with plates := { s.plates with queue := s.plates.queue.filter fun n => decide (n ≠ b.bid) } }
  let s := s.modifyBuild b.bid fun b =>
    { b with imager := some i, press := press, fan := some fan, size := some size, state := .assigned }
  let stock : Stock := s.sched.stock.get i
  let s : State := { s with sched := { s.sched with stock := s.sched.stock.set i { stock with count := stock.count - 1 } } }
  let s : State :=
    if stock.count = 1 then
      s.raise (Source.stock i) (.stock
        { imager := i, size := stock.size, plate := b.plate, generation := b.generation, waiting := s.waitingBuilds i })
    else s
  s.enterLoading i b.bid (jobOf s.store size fan e.positions b.bindings)

/-- The first build in queue order that is eligible for the imager (R66). -/
def State.firstEligible (s : State) (i : Imager) : Option Nat := s.plates.queue.find? fun bid => s.eligible i bid

/-- The part of a dispatch pass that examines one imager (R66). -/
def State.passFor (i : Imager) (s : State) : State :=
  if (s.channel i).seq.state = .idle then
    match (s.firstEligible i).bind s.build with
    | none => s
    | some b =>
      match s.entry b.plate with
      | none => s
      | some e => s.dispatchBuild i b e
  else s

/-- A dispatch pass: imager A, then imager B (R66, R67); no pass is owed after it. -/
def State.dispatchPass (s : State) : State := { (s.passFor .a).passFor .b with passOwed := false }

/-- The dispatch pass of an event that calls for one, made when the event's own effects are complete (R66). -/
def State.makePass (s : State) : State := if s.passOwed then s.dispatchPass else s

/-- What follows an event's own effects: the pass it calls for (R66, R67), then the choice of an upstream frame when the
lane is idle (R197). -/
def State.finish (s : State) : State := s.makePass.pump

/-- An event is taken: its effects, and what follows them. While RESET_N is asserted no event is taken (log 13). -/
def taken (effect : State → State) (s : State) : Host.Outcome State Fault Refusal :=
  if s.resetAsserted then .next s else .next (effect s).finish

/-- A dispatch pass would hand a build to the imager. -/
def State.dispatchDue (s : State) (i : Imager) : Bool :=
  decide ((s.channel i).seq.state = .idle) && (s.firstEligible i).isSome

end Sys2Proof.Machine
end

