-- ==== Sys2Proof/Machine/Tracker.lean ====
section
/-! DEFINITION. The Line Tracker's records (chapter 7): items and zones, windows, halts, the retirement of items; and
the completion notice, which reaches builds and items (R43 to R46). -/

namespace Sys2Proof

/-- The zone of a station (R133). -/
def Station.zone : Station → Machine.Zone
  | .punch => .punch
  | .bend => .bend
  | .sort => .sort

/-- The conveyor zone above a station (R133). -/
def Station.above : Station → Machine.Zone
  | .punch => .transfer
  | .bend => .link
  | .sort => .outfeed

/-- The gate sensor of the zone above a station (Table 7.2). -/
def Station.gateSensor : Station → LineSensor
  | .punch => .tg
  | .bend => .lg
  | .sort => .og

/-- The to-gate window kind of the zone above a station. -/
def Station.gateKind : Station → Machine.WindowKind
  | .punch => .transferGate
  | .bend => .linkGate
  | .sort => .outfeedGate

/-- The station sensor of a station (Table 7.2). -/
def Station.sensor : Station → LineSensor
  | .punch => .ps
  | .bend => .bs
  | .sort => .ss

/-- The entry window kind of a station. -/
def Station.entryKind : Station → Machine.WindowKind
  | .punch => .punchEntry
  | .bend => .bendEntry
  | .sort => .sortEntry

namespace Machine

/-! ### Items and zones (R132, R133) -/

def State.item (s : State) (order : Nat) : Option Item := s.line.items.find? fun it => decide (it.order = order)

def Line.modifyItem (l : Line) (order : Nat) (f : Item → Item) : Line :=
  { l with items := l.items.map fun it => if it.order = order then f it else it }

def State.modifyItem (order : Nat) (f : Item → Item) (s : State) : State := { s with line := s.line.modifyItem order f }

/-- An item leaves the item list. -/
def State.deleteItem (order : Nat) (s : State) : State :=
  { s with line := { s.line with items := s.line.items.filter fun it => decide (it.order ≠ order) } }

/-- A zone is the items of the list that lie in it, oldest first (R133). -/
def Line.inZone (l : Line) (z : Zone) : List Item := l.items.filter fun it => decide (it.zone = z)

/-- Zone capacities (Table 7.2). -/
def Zone.capacity : Zone → Nat
  | .transfer => 4
  | .punch => 1
  | .link => 2
  | .bend => 1
  | .outfeed => 2
  | .sort => 1

/-- The zone has room for an item (R133). -/
def Line.hasRoom (l : Line) (z : Zone) : Bool := decide ((l.inZone z).length < z.capacity)

/-- The exit sensor of an imager (Table 5.1). -/
def exitSensor : Imager → LineSensor
  | .a => .exitA
  | .b => .exitB

/-- The gate output of a station takes a value (R142, R143). -/
def LineOut.setGate (o : LineOut) (st : Station) (v : Bool) : LineOut :=
  match st with
  | .punch => { o with gatePunch := v }
  | .bend => { o with gateBend := v }
  | .sort => { o with gateSort := v }

/-- The item in a station's zone (R133: at most one). -/
def Line.stationItem (l : Line) (st : Station) : Option Item := (l.inZone st.zone).head?

/-! ### Windows (R135, R140) -/

/-- The entry of the Line Window Table for a window kind (R134). -/
def Line.windowEntry (l : Line) (k : WindowKind) : WindowEntry := l.table.kinds.getD (windowCode k) ⟨0, 0⟩

/-- A window that starts at the time `now` (R135). -/
def Line.newWindow (l : Line) (k : WindowKind) (sensor : LineSensor) (now : Nat) : Window :=
  let e := l.windowEntry k
  { kind := k, sensor := sensor, start := now, min := e.min, max := e.max, frozen := false,
    deadline := some (deadlineAfter now e.max), elapsed := none }

/-- A RUNNING window freezes at the time `now` (R135). -/
def Window.freeze (w : Window) (now : Nat) : Window :=
  if w.frozen then w
  else { w with frozen := true, deadline := none, elapsed := some (Nat.min (Machine.elapsed now w.start) Config.count16) }

/-- A FROZEN window restarts in full at the time `now` (R135). -/
def Line.restartWindow (l : Line) (now : Nat) (w : Window) : Window :=
  if w.frozen then l.newWindow w.kind w.sensor now else w

/-- A FROZEN window's elapsed count rises by 1 at a tick, stopping at 65535 (R94, R135). -/
def Window.tick (w : Window) : Window :=
  if w.frozen then { w with elapsed := w.elapsed.map saturate16 } else w

/-- The item whose window is at the sensor (R135: at most one). -/
def Line.windowAt (l : Line) (sensor : LineSensor) : Option Item :=
  l.items.find? fun it => match it.window with
    | some w => decide (w.sensor = sensor)
    | none => false

/-- The gate position of the zone above a station is clear (R140). -/
def Line.gateClear (l : Line) (st : Station) : Bool :=
  (l.inZone st.above).all (fun it => decide (it.location ≠ .atGate)) &&
    (l.inZone st.zone).all fun it => decide (it.location ≠ .entering)

/-- The item for which the to-gate window of the zone above a station runs (R140). -/
def Line.toGateItem (l : Line) (st : Station) : Option Item :=
  if l.gateClear st then
    match (l.inZone st.above).find? fun it => decide (it.location = .merging) || decide (it.location = .conveying) with
    | some it => if it.location = .conveying then some it else none
    | none => none
  else none

/-- The to-gate window of the zone above a station starts, in RUNNING, when its conditions hold and it does not yet
run (R140). -/
def Line.startToGate (now : Nat) (st : Station) (l : Line) : Line :=
  if l.state = .running then
    match l.toGateItem st with
    | some it =>
      if it.window.isNone then
        l.modifyItem it.order fun j => { j with window := some (l.newWindow st.gateKind st.gateSensor now) }
      else l
    | none => l
  else l

/-- The to-gate windows of the three conveyor zones (R140). -/
def State.startToGates (s : State) : State :=
  { s with line := ((s.line.startToGate s.now .punch).startToGate s.now .bend).startToGate s.now .sort }

/-! ### Retirement of items (R149) -/

/-- The item is retired with a cause; an item already retired keeps its cause (R149). -/
def State.retireItem (order : Nat) (cause : Cause) (s : State) : State :=
  s.modifyItem order fun it => if it.cause = .none_ then { it with cause := cause } else it

/-- The item exists and is retired. -/
def State.itemRetired (s : State) (order : Nat) : Bool :=
  match s.item order with
  | some it => decide (it.cause ≠ .none_)
  | none => false

/-- The item is retired for a cause that calls for replacement: the build-need check follows when the retirement takes
effect (R37, R48, R149). -/
def State.retireForReplacement (order : Nat) (cause : Cause) (s : State) : State :=
  match s.item order with
  | none => s
  | some it => if it.cause = .none_ then (s.retireItem order cause).needCheck it.plate none else s

/-- A station's controller has finished with the item (R144). -/
def State.finishWork (order : Nat) (s : State) : State := s.modifyItem order fun it => { it with work := some .done }

/-! ### Halts (R146 to R148) -/

/-- An item as a halt record names it (R147, R156). -/
def Item.halted (it : Item) : HaltItem :=
  { order := it.order, plate := it.plate, generation := it.generation, zone := it.zone, location := it.location }

/-- The halt record of a first halt (R147 step 1). -/
def haltRecord (cause : HaltCause) (item : Option HaltItem) (sensor : Option Nat) (exit : Option ExitName) (now : Nat) :
    HaltRecord :=
  { cause := cause, item := item, sensor := sensor, exit := exit, time := now, count := 0, further := none }

/-- The halt record after a further halt (R148). -/
def HaltRecord.furtherHalt (h : HaltRecord) (cause : HaltCause) (item : Option HaltItem) (sensor : Option Nat) :
    HaltRecord :=
  { h with count := min (h.count + 1) 255, further := some ⟨cause, item, sensor⟩ }

/-- The Line Tracker at a halt (R147 steps 1 to 4). -/
def Line.halted (l : Line) (h : HaltRecord) (now : Nat) : Line :=
  { l with state := .halted, halt := some h, out := LineOut.released,
           items := l.items.map fun it => { it with window := it.window.map fun w => w.freeze now } }

/-- A halt cause is given (R147 in RUNNING, R148 in HALTED). -/
def State.haltLine (cause : HaltCause) (order : Option Nat) (sensor : Option Nat) (exit : Option ExitName) (s : State) :
    State :=
  let item := (order.bind s.item).map Item.halted
  match s.line.state with
  | .running =>
    let h := haltRecord cause item sensor exit s.now
    let s := { s with line := s.line.halted h s.now, punch := { s.punch with halted := true },
                      bend := { s.bend with halted := true } }
    s.raise .line (.line ⟨h, .halted⟩)
  | .halted =>
    match s.line.halt with
    | none => s
    | some h =>
      let h := h.furtherHalt cause item sensor
      let s := { s with line := { s.line with halt := some h } }
      s.raise .line (.line ⟨h, .halted⟩)
  | .stopped => s

/-! ### Retirement of builds, the completion notice (R43 to R46, R52) -/

/-- A dispatched build is retired, and the imager that holds it is told (R45, R52). -/
def State.retireBuild (b : Build) (cause : Cause) (s : State) : State :=
  let s := s.modifyBuild b.bid fun b => { b with cause := cause }
  match b.imager with
  | none => s
  | some i => s.retireHeld i

/-- The build state is one of a build held by no imager (R35). -/
def BuildState.waits : BuildState → Bool
  | .open_ => true
  | .ready => true
  | _ => false

/-- The item carries the key at some position (R46). -/
def Item.carries (it : Item) (k : PageKey) : Bool :=
  it.bindings.any fun b => match b with
    | .bound k' _ => decide (k' = k)
    | _ => false

/-- The entry's positions contain the key. -/
def MapEntry.contains (e : MapEntry) (k : PageKey) : Bool := e.positions.any fun q => decide (q.key = some k)

/-- The Plate Composer's work on one entry for a completion notice (R43): the current build (R44, R45), the current item
(R46), the build-need check (R38). -/
def State.workEntry (k : PageKey) (v : Nat) (p : PlateId) (s : State) : State :=
  match s.entry p with
  | none => s
  | some e =>
    let s :=
      match s.currentBuild p with
      | none => s
      | some b => if b.state.waits then s.rebindBuild e b k v else s.retireBuild b .superseded
    let s :=
      match s.currentItem p with
      | none => s
      | some it => if it.carries k then s.retireItem it.order .superseded else s
    s.needCheck p (some (k, v))

/-- The entries that contain the key, in plate id order (R43). -/
def State.workEntries (k : PageKey) (v : Nat) : List PlateId → State → State
  | [], s => s
  | p :: ps, s => State.workEntries k v ps (s.workEntry k v p)

/-- The answer to a completion notice: the deferral ends, the freeing condition is evaluated, PAGE DONE is offered
(R20, R23). -/
def State.answerNotice (n : Notice) (s : State) : State :=
  match s.store.find n.key n.version with
  | none => { s with store := { s.store with notices := s.store.notices.tail } }
  | some r =>
    let store := { s.store with notices := s.store.notices.tail }
    let store := store.evalFree n.key n.version
    State.offer (.pageDone
      { key := n.key, version := n.version, width := r.width, height := r.height, bound := r.refs,
        superseded := n.superseded, overtaken := n.overtaken, kept := (store.find n.key n.version).isSome })
      { s with store := store }

/-- The oldest completion notice is worked and answered (R43). -/
def State.workNotice (s : State) : State :=
  match s.store.notices with
  | [] => s
  | n :: _ =>
    let ps := (s.plates.map.filter fun e => e.contains n.key).map MapEntry.id
    (s.workEntries n.key n.version ps).answerNotice n

end Machine

end Sys2Proof
end

