-- ==== Sys2Proof/Machine/Stations.lean ====
section
/-! DEFINITION. Punching and bending (chapter 8): the Punch Controller's and the Bend Controller's work on the items in
their stations. -/

namespace Sys2Proof.Machine

/-! ### The Punch Controller (R160 to R166) -/

/-- The station record becomes IDLE with its fields absent (R163), the next die place 0 (DESIGN CHOICE, log 35); the line
halted flag and the stray count stay. -/
def Punch.toIdle (p : Punch) : Punch :=
  { p with state := .idle, item := none, pattern := none, nextDie := 0, die := none, start := none, deadline := none }

/-- The next die of the pattern copy is ordered at the time `now`, with the die timeout `timeout` (R162). -/
def Punch.orderDie (p : Punch) (now timeout : Nat) : Punch :=
  let n := (p.pattern.getD []).getD p.nextDie 0
  { p with state := .stroking, die := some n, dies := p.dies.set n true, start := some now,
           deadline := some (deadlineAfter now timeout), nextDie := p.nextDie + 1 }

/-- The stroke in progress ends: the die output is RELEASED (R162, R164). -/
def Punch.releaseDie (p : Punch) : Punch :=
  match p.die with
  | none => p
  | some n => { p with dies := p.dies.set n false, die := none, start := none, deadline := none }

def State.orderDie (s : State) : State := { s with punch := s.punch.orderDie s.now s.link.timing.die }

/-- The Punch Controller has finished with the item (R163). -/
def State.punchFinishes (order : Nat) (s : State) : State :=
  State.finishWork order { s with punch := s.punch.toIdle }

/-- A controller takes the entry notice of an item, which waits no longer (R143). -/
def State.noticeTaken (order : Nat) (s : State) : State := s.modifyItem order fun it => { it with entryTime := none }

/-- The Punch Controller takes the entry notice of an item (R161). -/
def State.punchTakes (it : Item) (s : State) : State :=
  let s := s.noticeTaken it.order
  let s :=
    if it.cause = .none_ ∧ s.assigned it.plate.line ≠ some it.press then s.retireForReplacement it.order .redirected
    else s
  if s.itemRetired it.order then s.finishWork it.order
  else
    let pattern := ((s.press it.press).bind fun p => s.punch.patterns.getD p.pattern none).getD []
    let s := { s with punch := { s.punch with item := some it.order, pattern := some pattern, nextDie := 0 } }
    s.orderDie

/-- The entry notice that a station's controller has yet to take: that of the item whose station work is WORKING and whose
entry is not yet taken; it carries the arrival's timestamp, the item's `entryTime` (R143). -/
def Line.noticed (l : Line) (st : Station) : Option Item :=
  match l.stationItem st with
  | some it => if it.location = .inStation ∧ it.work = some .working ∧ it.entryTime.isSome then some it else none
  | none => none

/-- The Punch Controller, IDLE, takes an entry notice in RUNNING (R161). -/
def State.punchEntry (s : State) : State :=
  if s.line.state = .running ∧ s.punch.state = .idle then
    match s.line.noticed .punch with
    | some it => s.punchTakes it
    | none => s
  else s

/-- What follows a stroke's completion (R163). -/
def State.punchContinues (order : Nat) (s : State) : State :=
  if (s.punch.pattern.getD []).length ≤ s.punch.nextDie then s.punchFinishes order
  else if s.itemRetired order then s.punchFinishes order
  else if s.punch.halted then { s with punch := { s.punch with state := .paused } }
  else s.orderDie

/-- A DIE_HOME arrival stamped `t` matches the stroke in progress (R162). -/
def Punch.matches (p : Punch) (n t : Nat) : Bool :=
  decide (p.state = .stroking) && decide (p.die = some n) && (match p.start with
    | some t0 => notBefore t t0
    | none => false)

/-- A DIE_HOME arrival of die `n` stamped `t` (R162, R163). -/
def State.dieHome (n t : Nat) (s : State) : State :=
  if s.punch.matches n t then
    State.punchContinues (s.punch.item.getD Config.count16) { s with punch := s.punch.releaseDie }
  else { s with punch := { s.punch with strays := saturate16 s.punch.strays } }

/-- The die deadline expires (R164). -/
def State.dieExpires (s : State) : State :=
  match s.punch.state, s.punch.item, s.punch.die with
  | .stroking, some order, some n =>
    if dueAt s.now s.punch.deadline then
      let s := { s with punch := s.punch.releaseDie }
      let s := s.retireForReplacement order .dieFault
      let s := s.haltLine .dieTimeout (some order) (some (11 + n)) none
      s.punchFinishes order
    else s
  | _, _, _ => s

/-- The Punch Controller is told of the return to RUNNING (R165). -/
def State.punchReturns (s : State) : State :=
  let s := { s with punch := { s.punch with halted := false } }
  match s.punch.state, s.punch.item with
  | .paused, some order => if s.itemRetired order then s.punchFinishes order else s.orderDie
  | _, _ => s

/-- The Punch Controller is told that its item is gone (R166). -/
def State.punchRemoved (s : State) : State := { s with punch := s.punch.releaseDie.toIdle }

/-! ### The Bend Controller (R167 to R170) -/

def Bend.toIdle (b : Bend) : Bend :=
  { b with state := .idle, item := none, profile := none, bend := none, start := none, deadline := none }

/-- The output of a bend takes a value. -/
def Bend.drive (b : Bend) (k : BendKind) (v : Bool) : Bend :=
  match k with
  | .lead => { b with outLead := v }
  | .tail => { b with outTail := v }

/-- A bend is ordered (R168). -/
def Bend.order (b : Bend) (k : BendKind) (now timeout : Nat) : Bend :=
  { b.drive k true with state := .bending, bend := some k, start := some now,
                        deadline := some (deadlineAfter now timeout) }

/-- The bend in stroke ends: its output is RELEASED (R168, R169). -/
def Bend.release (b : Bend) : Bend :=
  match b.bend with
  | none => b
  | some k => { b.drive k false with bend := none, start := none, deadline := none }

def State.orderBend (k : BendKind) (s : State) : State := { s with bend := s.bend.order k s.now s.link.timing.bend }

def State.bendFinishes (order : Nat) (s : State) : State := State.finishWork order { s with bend := s.bend.toIdle }

/-- The Bend Controller takes the entry notice of an item (R167). -/
def State.bendTakes (it : Item) (s : State) : State :=
  let s := s.noticeTaken it.order
  if it.cause ≠ .none_ then s.finishWork it.order
  else
    let profile := ((s.press it.press).bind fun p => s.bend.profiles.getD p.profile none).getD ⟨false, false⟩
    if !profile.lead && !profile.tail then s.finishWork it.order
    else
      let s := { s with bend := { s.bend with item := some it.order, profile := some profile } }
      s.orderBend (if profile.lead then .lead else .tail)

/-- The Bend Controller, IDLE, takes an entry notice in RUNNING (R167). -/
def State.bendEntry (s : State) : State :=
  if s.line.state = .running ∧ s.bend.state = .idle then
    match s.line.noticed .bend with
    | some it => s.bendTakes it
    | none => s
  else s

/-- What follows a bend's completion (R168). -/
def State.bendContinues (order : Nat) (k : BendKind) (s : State) : State :=
  if k = .lead ∧ (s.bend.profile.map Profile.tail).getD false ∧ !s.itemRetired order then
    if s.bend.halted then { s with bend := { s.bend with state := .paused } } else s.orderBend .tail
  else s.bendFinishes order

/-- A BEND_DONE arrival stamped `t` matches the bend in stroke (R168). -/
def Bend.matches (b : Bend) (t : Nat) : Bool :=
  decide (b.state = .bending) && (match b.start with
    | some t0 => notBefore t t0
    | none => false)

/-- A BEND_DONE arrival stamped `t` (R168). -/
def State.bendDone (t : Nat) (s : State) : State :=
  match s.bend.matches t, s.bend.bend with
  | true, some k => State.bendContinues (s.bend.item.getD Config.count16) k { s with bend := s.bend.release }
  | _, _ => { s with bend := { s.bend with strays := saturate16 s.bend.strays } }

/-- The bend deadline expires (R169). -/
def State.bendExpires (s : State) : State :=
  match s.bend.state, s.bend.item with
  | .bending, some order =>
    if dueAt s.now s.bend.deadline then
      let s := { s with bend := s.bend.release }
      let s := s.retireForReplacement order .bendFault
      let s := s.haltLine .bendTimeout (some order) (some 23) none
      s.bendFinishes order
    else s
  | _, _ => s

/-- The Bend Controller is told of the return to RUNNING (R170). -/
def State.bendReturns (s : State) : State :=
  let s := { s with bend := { s.bend with halted := false } }
  match s.bend.state, s.bend.item with
  | .paused, some order => if s.itemRetired order then s.bendFinishes order else s.orderBend .tail
  | _, _ => s

/-- The Bend Controller is told that its item is gone (R170). -/
def State.bendRemoved (s : State) : State := { s with bend := s.bend.release.toIdle }

end Sys2Proof.Machine
end

