-- ==== Sys2Proof/Machine/Sorter.lean ====
section
/-! DEFINITION. Sorting and delivery (chapter 9): slots, the destination decision, the deposit and its effects. -/

namespace Sys2Proof.Machine

/-! ### Carts and exits (R172 to R176) -/

/-- The slot count of a layout (R172). -/
def Layout.slots (l : Layout) : Nat := l.units * 2 * l.acrosses

/-- The slot of a plate under a layout; none when it is not in layout (R174). -/
def Layout.slotOf (l : Layout) (p : PlateId) : Option Nat :=
  if p.unit < l.units ∧ p.across < l.acrosses then some ((p.unit * 2 + p.face) * l.acrosses + p.across) else none

def Sorter.cart (t : Sorter) (n : Nat) : Cart := t.carts.getD n Cart.reset

def Sorter.setCart (t : Sorter) (n : Nat) (c : Cart) : Sorter := { t with carts := t.carts.set n c }

/-- Attach of a cart (R175). -/
def Sorter.attach (t : Sorter) (n : Nat) : Sorter := t.setCart n { t.cart n with present := true }

/-- Detach of a cart (R175). -/
def Sorter.detach (t : Sorter) (n : Nat) : Sorter := t.setCart n { t.cart n with present := false, occupancy := [] }

/-- The exit's count (R176). -/
def Sorter.count (t : Sorter) : ExitName → Nat
  | .reject => t.rejects
  | .remake => t.remakes

/-- The capacity of an exit (R176). -/
def ExitName.capacity : ExitName → Nat
  | .reject => Config.rejectCapacity
  | .remake => Config.remakeCapacity

/-- The exit is full (R176). -/
def Sorter.full (t : Sorter) (e : ExitName) : Bool := decide (t.count e = ExitName.capacity e)

/-- An exit has been emptied (R176). -/
def Sorter.emptied (t : Sorter) : ExitName → Sorter
  | .reject => { t with rejects := 0 }
  | .remake => { t with remakes := 0 }

/-- The exit of a destination, if it is one. -/
def Destination.exit : Destination → Option ExitName
  | .cart _ _ => none
  | .reject => some .reject
  | .remake => some .remake

/-- The SORT_EXIT code of a destination (R102). -/
def Destination.code : Destination → Nat
  | .cart n _ => n
  | .reject => 6
  | .remake => 7

/-! ### The destination decision (R177 to R180) -/

/-- Tests 3 to 6 of R177, for an item that is current and agrees with its line's assignment: the destination and the
divert reason. -/
def Sorter.choose (t : Sorter) (it : Item) : Destination × Option Divert :=
  let c := t.cart it.press
  if !c.present then (.remake, some .cartAbsent)
  else
    match c.layout.bind fun l => l.slotOf it.plate with
    | none => (.remake, some .noSlot)
    | some n => if n ∈ c.occupancy then (.remake, some .slotOccupied) else (.cart it.press n, none)

/-- The station record becomes IDLE with every field absent (R181 step 5, R184). DESIGN CHOICE (log 40): redirected here,
for which Table 9.2 has no absent value, is clear. -/
def Sorter.toIdle (t : Sorter) : Sorter :=
  { t with state := .idle, item := none, destination := none, divert := none, redirected := false,
           retiredHere := false }

/-- The deposit is ordered (R179): the code, the state, the DEPOSIT window at SD. -/
def State.orderDeposit (order : Nat) (d : Destination) (s : State) : State :=
  let s := s.modifyItem order fun it => { it with window := some (s.line.newWindow .deposit .sd s.now) }
  { s with sorter := { s.sorter with state := .depositing, exitCode := d.code } }

/-- The destination is fixed: the deposit is ordered, or the full exit blocks the station (R179, R180). The halt cause of
a blocked station is given by `State.haltBlocked`. -/
def State.fixDestination (order : Nat) (d : Destination) (divert : Option Divert) (redirected : Bool) (s : State) :
    State :=
  let s := { s with sorter := { s.sorter with
    item := some order, destination := some d, divert := divert, redirected := redirected,
    retiredHere := s.sorter.retiredHere || redirected } }
  if (d.exit.map s.sorter.full).getD false then { s with sorter := { s.sorter with state := .blocked } }
  else s.orderDeposit order d

/-- The BLOCKED station gives the line the halt cause EXIT_FULL with its item and exit (R180). -/
def State.haltBlocked (s : State) : State :=
  if s.sorter.state = .blocked then s.haltLine .exitFull s.sorter.item none (s.sorter.destination.bind Destination.exit)
  else s

/-- The destination decision for an item (R177, R178). -/
def State.decideFor (it : Item) (s : State) : State :=
  if it.cause ≠ .none_ then s.fixDestination it.order .reject none false
  else if s.assigned it.plate.line ≠ some it.press then
    (s.retireForReplacement it.order .redirected).fixDestination it.order .reject none true
  else
    let d := s.sorter.choose it
    s.fixDestination it.order d.1 d.2 false

/-- The Sorter Controller, IDLE, takes an entry notice in RUNNING and decides (R177); a station that this blocks has not
yet given its halt cause. -/
def State.sortTakes (s : State) : State :=
  if s.line.state = .running ∧ s.sorter.state = .idle then
    match s.line.noticed .sort with
    | some it => (s.noticeTaken it.order).decideFor it
    | none => s
  else s

/-- The Sorter Controller takes an entry notice, and halts the line if the exit is full (R177, R180). -/
def State.sortEntry (s : State) : State :=
  if s.line.state = .running ∧ s.sorter.state = .idle then s.sortTakes.haltBlocked else s

/-- The Sorter Controller, BLOCKED when the line returns to RUNNING, takes the item up again (R180, R184). -/
def State.sorterReturns (s : State) : State :=
  match s.sorter.item.bind s.item with
  | some it => s.decideFor it
  | none => s

/-- The Sorter Controller is told that its item is gone (R184). -/
def State.sorterRemoved (s : State) : State := { s with sorter := s.sorter.toIdle }

/-! ### The deposit (R181 to R183) -/

/-- The slot fixed at the decision joins the occupancy set: the cart is PRESENT and the slot lies in its present layout
(R181 step 1). -/
def Sorter.marks (t : Sorter) (n slot : Nat) : Bool :=
  (t.cart n).present && decide (slot < (((t.cart n).layout.map Layout.slots).getD 0))

/-- Step 1 of R181. -/
def Sorter.deposited (t : Sorter) (d : Destination) : Sorter :=
  match d with
  | .reject => { t with rejects := t.rejects + 1 }
  | .remake => { t with remakes := t.remakes + 1 }
  | .cart n slot =>
    if t.marks n slot then t.setCart n { t.cart n with occupancy := insertRising slot (t.cart n).occupancy } else t

/-- The report of a deposit (R182, R183), with the Sorter Controller before and after step 1. Redirected here is yes for
an item that a decision of this station retired REDIRECTED, also when a later decision cleared the field of that name (log
29). -/
def depositReport (it : Item) (d : Destination) (old new : Sorter) (t : Nat) : EventBody :=
  match d with
  | .reject => .plateRejected
      { plate := it.plate, generation := it.generation, order := it.order, press := it.press, cause := it.cause,
        redirected := old.retiredHere, rejects := new.rejects, time := t }
  | .remake => .plateDelivered
      { plate := it.plate, generation := it.generation, order := it.order, press := it.press, destination := d,
        marked := false, divert := old.divert, remakes := new.remakes, positions := it.bindings, time := t }
  | .cart n slot => .plateDelivered
      { plate := it.plate, generation := it.generation, order := it.order, press := it.press, destination := d,
        marked := old.marks n slot, divert := none, remakes := 0, positions := it.bindings, time := t }

/-- Step 2 of R181: a delivery is told to the Plate Composer, a rejection is not. -/
def State.tellDelivery (it : Item) (d : Destination) (s : State) : State :=
  match d with
  | .reject => s
  | _ => s.deliver it.plate it.bindings

/-- The deposit of an item at the SD arrival stamped `t` (R145, R181): the item leaves the line, and the Sorter
Controller, in DEPOSITING, makes the five steps. -/
def State.depositItem (it : Item) (t : Nat) (s : State) : State :=
  let s := s.deleteItem it.order
  match s.sorter.state, s.sorter.destination with
  | .depositing, some d =>
    let old := s.sorter
    let new := old.deposited d
    let s := State.tellDelivery it d { s with sorter := new }
    let s : State := { s with store := s.store.dropRefs it.bindings }
    let s := s.offer (depositReport it d old new t)
    { s with sorter := s.sorter.toIdle }
  | _, _ => s

end Sys2Proof.Machine
end

