-- ==== Sys2Proof/Machine/LineEvents.lean ====
section
/-! DEFINITION. The events of the line (chapter 7): arrivals, gate openings, releases, merge grants, expiries, the start,
the stop and the resumption of the line. -/

namespace Sys2Proof.Machine

/-! ### Arrivals (R139, R141, R143, R145) -/

/-- The EXIT window's match (R139). -/
def State.exitMatched (it : Item) (s : State) : State :=
  let s := s.modifyItem it.order fun it => { it with window := none, location := .conveying, source := none }
  match it.source with
  | none => s
  | some i => s.unloaded i

/-- A to-gate window's match (R140). -/
def State.gateMatched (it : Item) (s : State) : State :=
  s.modifyItem it.order fun it => { it with window := none, location := .atGate }

/-- An entry window's match stamped `t` (R143): in RUNNING the notice is given at once, in HALTED it waits; it carries the
timestamp in both. -/
def State.entryMatched (it : Item) (st : Station) (t : Nat) (s : State) : State :=
  let running := decide (s.line.state = .running)
  let s := s.modifyItem it.order fun it =>
    { it with window := none, location := .inStation, work := some (if running then .working else .notStarted),
              entryTime := some t }
  { s with line := { s.line with out := s.line.out.setGate st false } }

/-- A match moves the window's item as Table 7.4 gives (R141). -/
def State.matched (it : Item) (k : WindowKind) (t : Nat) (s : State) : State :=
  match k with
  | .exit => s.exitMatched it
  | .transferGate => s.gateMatched it
  | .linkGate => s.gateMatched it
  | .outfeedGate => s.gateMatched it
  | .punchEntry => s.entryMatched it .punch t
  | .bendEntry => s.entryMatched it .bend t
  | .sortEntry => s.entryMatched it .sort t
  | .deposit => s.depositItem it t

/-- A PHANTOM at a sensor, with the item of the window there, stamped `t` (R141). DESIGN CHOICE (log 39): in STOPPED the
LINE condition has the fields of a halt record, of which R156 names the cause, the sensor and the timestamp; the others are
absent and the further-halts count is 0. -/
def State.phantom (sensor : LineSensor) (order : Option Nat) (t : Nat) (s : State) : State :=
  match s.line.state with
  | .stopped =>
    s.raise .line (.line ⟨haltRecord .phantom none (some (sensorInput sensor)) none t, .stopped⟩)
  | _ => s.haltLine .phantom order (some (sensorInput sensor)) none

/-- An arrival at a Line Tracker sensor stamped `t` (R141). -/
def State.lineArrival (sensor : LineSensor) (t : Nat) (s : State) : State :=
  match s.line.windowAt sensor with
  | none => s.phantom sensor none t
  | some it =>
    match it.window with
    | none => s
    | some w => if w.minMet t then (s.matched it w.kind t).startToGates else s.phantom sensor (some it.order) t

/-! ### Gates and releases (R142, R144) -/

/-- The head item of the zone above a station waits AT_GATE and the station is empty (R142). -/
def Line.gateReady (l : Line) (st : Station) : Option Item :=
  if l.state = .running ∧ (l.inZone st.zone).isEmpty then
    match l.inZone st.above with
    | it :: _ => if it.location = .atGate then some it else none
    | [] => none
  else none

/-- A gate opens (R142). -/
def State.gateOpens (st : Station) (s : State) : State :=
  match s.line.gateReady st with
  | none => s
  | some it =>
    let w := s.line.newWindow st.entryKind st.sensor s.now
    let s := s.modifyItem it.order fun it => { it with zone := st.zone, location := .entering, window := some w }
    { s with line := { s.line with out := s.line.out.setGate st true } }

/-- The conveyor zone below a station; the sort station has none. -/
def belowStation : Station → Option Zone
  | .punch => some .link
  | .bend => some .outfeed
  | .sort => none

/-- The item in the station is finished with, and the next zone has room (R144). -/
def Line.releaseReady (l : Line) (st : Station) : Option (Item × Zone) :=
  match belowStation st, l.stationItem st with
  | some z, some it =>
    if l.state = .running ∧ it.location = .inStation ∧ it.work = some .done ∧ l.hasRoom z then some (it, z) else none
  | _, _ => none

/-- An item is released from its station (R144). -/
def State.itemReleases (st : Station) (s : State) : State :=
  match s.line.releaseReady st with
  | none => s
  | some (it, z) =>
    (s.modifyItem it.order fun it => { it with zone := z, location := .conveying, work := none }).startToGates

/-! ### The Merge Arbiter (R136 to R138) -/

/-- The merge spacing has elapsed since the last grant (R136). -/
def Merge.spaced (m : Merge) : Bool := m.lastGrant.isNone || m.spacingOver

/-- The grant conditions (R136). -/
def Line.grantReady (l : Line) : Bool :=
  decide (l.state = .running) && l.hasRoom .transfer && l.merge.spaced && !l.merge.requests.isEmpty

/-- The request that wins (R137): the lower class, at equal class the one taken first. -/
def winner : List ExitRequest → Option ExitRequest
  | [] => none
  | r :: rs =>
    match winner rs with
    | none => some r
    | some q => if q.cls < r.cls then some q else some r

/-- The line item of a build (R51, R138 step 1). -/
def Build.toItem (b : Build) (order : Nat) (i : Imager) (w : Window) : Item :=
  { order := order, plate := b.plate, generation := b.generation, bindings := b.bindings, press := b.press.getD 0,
    cause := b.cause, zone := .transfer, location := .merging, source := some i, work := none, window := some w,
    entryTime := none }

/-- A grant to the imager of a request (R138): the five steps, as one transaction. -/
def State.grantTo (r : ExitRequest) (b : Build) (s : State) : State :=
  let l := s.line
  let w := l.newWindow .exit (exitSensor r.imager) s.now
  let l := { l with
    items := l.items ++ [b.toItem l.counter r.imager w], counter := (l.counter + 1) % 65536,
    merge := { requests := l.merge.requests.filter fun q => decide (q.imager ≠ r.imager), lastGrant := some s.now,
               deadline := some (deadlineAfter s.now l.table.spacing), spacingOver := false } }
  let s := (State.freeBuild b.bid { s with line := l }).workPending
  (s.modifyOut r.imager fun o => { o with eject := true }).modifySeq r.imager fun q => { q with state := .unloading, build := none }

/-- The Merge Arbiter makes one grant when the conditions hold (R136, R137). -/
def State.mergeGrants (s : State) : State :=
  if s.line.grantReady then
    match winner s.line.merge.requests with
    | none => s
    | some r =>
      match (s.channel r.imager).seq.build.bind s.build with
      | none => s
      | some b => s.grantTo r b
  else s

/-- The spacing deadline is reached (R136). -/
def State.spacingExpires (s : State) : State :=
  if !s.line.merge.spacingOver && dueAt s.now s.line.merge.deadline then
    { s with line := { s.line with merge := { s.line.merge with spacingOver := true } } }
  else s

/-! ### Window expiry (R135, R146) -/

/-- The item whose RUNNING window at the sensor has reached its deadline. -/
def State.expiredAt (s : State) (sensor : LineSensor) : Option (Item × Window) :=
  match s.line.windowAt sensor with
  | none => none
  | some it =>
    match it.window with
    | none => none
    | some w => if !w.frozen && dueAt s.now w.deadline then some (it, w) else none

/-- A window's deadline is reached (R146). -/
def State.windowExpires (sensor : LineSensor) (s : State) : State :=
  match s.expiredAt sensor with
  | none => s
  | some (it, w) =>
    s.haltLine (if w.kind = .deposit then .depositTimeout else .missing) (some it.order) (some (sensorInput sensor)) none

/-! ### Start, stop and resume (R150 to R153) -/

/-- The gate outputs of the items ENTERING their stations (R153). -/
def Line.enteringGate (l : Line) (st : Station) : Bool :=
  (l.inZone st.zone).any fun it => decide (it.location = .entering)

/-- The outputs of a line that returns to RUNNING (R131, R153). -/
def Line.runningOut (l : Line) : LineOut :=
  { convTransfer := true, convLink := true, convOutfeed := true, gatePunch := l.enteringGate .punch,
    gateBend := l.enteringGate .bend, gateSort := l.enteringGate .sort }

/-- An item at the return to RUNNING: its FROZEN window restarts, and a waiting entry notice is given with its original
timestamp (R135, R143, R153). -/
def Line.resumeItem (l : Line) (now : Nat) (it : Item) : Item :=
  { it with window := it.window.map (l.restartWindow now),
            work := if it.work = some .notStarted then some .working else it.work }

/-- The Line Tracker at the return to RUNNING (R153). -/
def Line.returned (l : Line) (now : Nat) : Line :=
  { l with state := .running, out := l.runningOut, items := l.items.map (l.resumeItem now), halt := none }

/-- The controllers take the entry notices that wait at the return, with the values held then (R153, R161, R167, R177). -/
def State.takeNotices (s : State) : State := s.punchEntry.bendEntry.sortTakes

/-- The gate openings and releases that wait at the return (R142, R144, R153), from the sort station up the line, so that
the room that each makes is there for the next (DEDUCED, log 36). -/
def State.moveWaiting (s : State) : State :=
  (((s.gateOpens .sort).itemReleases .bend).gateOpens .bend |>.itemReleases .punch).gateOpens .punch

/-- The controllers are told of the return (R165, R170, R184); `blocked` when the sort station was BLOCKED before it. -/
def State.tellReturn (blocked : Bool) (s : State) : State :=
  let s := s.punchReturns.bendReturns
  if blocked then s.sorterReturns else s

/-- The line returns to RUNNING (R153): the windows, the waiting steps, the controllers, the Merge Arbiter's evaluation, in
the order in which the rule lists them (log 36). The halt cause of a sort station that a decision of the return leaves
BLOCKED is given when the return is complete. -/
def State.returnToRunning (s : State) : State :=
  let blocked := decide (s.sorter.state = .blocked)
  let s := State.startToGates { s with line := s.line.returned s.now }
  ((s.takeNotices.moveWaiting).tellReturn blocked).mergeGrants.haltBlocked

/-- The item that LINE RESUME with REMOVE deletes: the halt item, when it is still on the line (R151). -/
def State.removable (s : State) : Option Item := (s.line.halt.bind HaltRecord.item).bind fun h => s.item h.order

/-- The removed item is made known where it stands (R152 step 2). -/
def State.tellRemoved (it : Item) (s : State) : State :=
  match it.location, it.zone with
  | .merging, _ =>
    match it.source with
    | none => s
    | some i => s.unloaded i
  | .inStation, .punch => s.punchRemoved
  | .inStation, .bend => s.bendRemoved
  | .inStation, .sort => s.sorterRemoved
  | _, _ => s

/-- Disposition REMOVE deletes the halt item (R152). -/
def State.removeItem (it : Item) (s : State) : State :=
  let s := (s.deleteItem it.order).tellRemoved it
  let s : State := { s with store := s.store.dropRefs it.bindings }
  if it.cause = .none_ then s.needCheck it.plate none else s

/-- The result of LINE RESUME with REMOVE (R151): item order number, plate id and generation. -/
def Item.removedBytes (it : Item) : List Byte := be 2 it.order ++ plateBytes it.plate ++ be 1 it.generation

/-- The exit named in the halt record is still full (R151, R180). -/
def State.exitStillFull (s : State) (h : HaltRecord) : Bool :=
  decide (h.cause = .exitFull) && (match h.exit with
    | some e => s.sorter.full e
    | none => false)

/-! ### RESTART (R155) -/

/-- RESTART's action on the line, the Merge Arbiter and the three stations (R155, R166, R170, R184). -/
def State.restartLine (s : State) : State :=
  let l : Line := { s.line with state := .stopped, items := [], halt := none, out := LineOut.released,
                                merge := { requests := [], lastGrant := none, deadline := none, spacingOver := false } }
  let s := (State.punchRemoved { s with line := l }).bendRemoved.sorterRemoved
  { s with punch := { s.punch with halted := false }, bend := { s.bend with halted := false } }

end Sys2Proof.Machine
end

