-- ==== Sys2Proof/Machine/Sensors.lean ====
section
/-! DEFINITION. Sensor inputs and the Line Timebase (chapter 5): samples, acceptances and the arrivals they deliver,
SENSOR SET, ticks, power-on reset. -/

namespace Sys2Proof.Machine

/-! ### Inputs (Table 5.1) -/

/-- The CLAMP input of an imager. -/
def clampInput : Imager → Nat
  | .a => 0
  | .b => 1

/-- The Line Tracker's sensor at an input (Table 5.1). -/
def lineSensorAt : Nat → Option LineSensor
  | 2 => some .exitA
  | 3 => some .exitB
  | 4 => some .tg
  | 5 => some .ps
  | 6 => some .lg
  | 7 => some .bs
  | 8 => some .og
  | 9 => some .ss
  | 10 => some .sd
  | _ => none

/-- DIE_HOME_n is input 11 + n. -/
def dieInput (die : Nat) : Nat := 11 + die

/-- BEND_DONE. -/
def bendInput : Nat := 23

/-- CART_n is input 24 + n. -/
def cartInput (cart : Nat) : Nat := 24 + cart

/-- The input is one of CART_0..CART_5 (R99). -/
def isCartInput (n : Nat) : Bool := decide (24 ≤ n) && decide (n ≤ 29)

/-- The emptied input of an exit. -/
def emptiedInput : ExitName → Nat
  | .reject => 30
  | .remake => 31

/-! ### Deliveries (R98, R99) -/

/-- An attach event of cart `n` (R99, R175). -/
def State.attachCart (n : Nat) (s : State) : State := { s with sorter := s.sorter.attach n }

/-- A detach event of cart `n` (R99, R175). -/
def State.detachCart (n : Nat) (s : State) : State := { s with sorter := s.sorter.detach n }

/-- An arrival event of input `n`, stamped `t`, is taken by the input's owner (R98, Table 5.1). -/
def State.takeArrival (n t : Nat) (s : State) : State :=
  match lineSensorAt n with
  | some sensor => s.lineArrival sensor t
  | none =>
    if n = 0 then s.clamped .a
    else if n = 1 then s.clamped .b
    else if n < bendInput then s.dieHome (n - 11) t
    else if n = bendInput then s.bendDone t
    else if isCartInput n then s.attachCart (n - 24)
    else if n = 30 then { s with sorter := s.sorter.emptied .reject }
    else if n = 31 then { s with sorter := s.sorter.emptied .remake }
    else s

/-- The accepted change of input `n` is an active edge: it is accepted, and its arrival taken (R97, R98). -/
def State.arrival (n : Nat) (s : State) : State :=
  if s.arrives n then (s.acceptInput n).takeArrival n (s.input n).stamp else s

/-- The accepted change of input `n` is an inactive edge: it is accepted, and for a CART input the detach taken (R97,
R99). -/
def State.departure (n : Nat) (s : State) : State :=
  if s.departs n then
    let s := s.acceptInput n
    if isCartInput n then s.detachCart (n - 24) else s
  else s

/-! ### Samples (R96, R97) -/

/-- An input after a sample that shows the level `level` at the reference tick `ref` (R97); an acceptance at this
sample is left to the event it makes. -/
def Input.sampled (n : Input) (level : Bool) (ref : Nat) : Input :=
  if level = n.filtered then { n with raw := level, change := none }
  else
    match n.change with
    | some _ => { n with raw := level }
    | none => { n with raw := level, change := some ⟨ref, ref⟩ }

/-- The pending change of input `n` was to be accepted at an earlier sample than the present one. -/
def State.overdue (s : State) (n : Nat) : Bool :=
  match (s.input n).change with
  | none => false
  | some c => decide ((s.input n).acceptTick c < s.clock.ref)

/-- A pending change of input `n` that was to be accepted at an earlier sample is accepted, and its event taken, with the
dispatch pass that the event calls for. -/
def State.settle (n : Nat) (s : State) : State := if s.overdue n then ((s.arrival n).departure n).makePass else s

/-- A raw level change of an input (R97); an acceptance of an earlier sample is taken first. -/
def State.rawLevel (n : Nat) (level : Bool) (s : State) : State :=
  if n < 32 then
    let s := s.settle n
    { s with inputs := s.inputs.set n ((s.input n).sampled level s.clock.ref) }
  else s

/-! ### SENSOR SET (R100) -/

/-- An input after SENSOR SET at the reference tick `ref`: a pending change is kept with its start and judged against
the new filter time from the next sample on. -/
def Input.configured (n : Input) (rising : Bool) (filter ref : Nat) : Input :=
  { n with rising := rising, filter := filter,
           change := n.change.map fun c => { c with notBefore := max c.notBefore (ref + 1) } }

/-- SENSOR SET, not refused (R100); an acceptance of an earlier sample is taken first. -/
def State.configureInput (n : Nat) (rising : Bool) (filter : Nat) (s : State) : State :=
  let s := s.settle n
  let old := s.input n
  let new := old.configured rising filter s.clock.ref
  let s := { s with inputs := s.inputs.set n new }
  if isCartInput n ∧ old.rising ≠ rising then
    if new.active then s.attachCart (n - 24) else s.detachCart (n - 24)
  else s

/-! ### The Line Timebase (R94) -/

/-- The Line Timebase time increases by 1, and the FROZEN windows count (R94, R135). -/
def State.tick (s : State) : State :=
  { s with clock := { s.clock with time := (s.clock.time + 1) % Config.timeModulus },
           line := { s.line with items := s.line.items.map fun it =>
             { it with window := it.window.map Window.tick } } }

/-- `n` reference ticks pass: the reference count and both period counters count them (R94, R108). -/
def State.advance (n : Nat) (s : State) : State :=
  { s with clock := { s.clock with ref := s.clock.ref + n },
           chan := ⟨{ s.chan.a with drum := s.chan.a.drum.advance n }, { s.chan.b with drum := s.chan.b.drum.advance n }⟩ }

/-- Reference ticks to the next tick of the Line Timebase (R94). -/
def Clock.toTick (c : Clock) : Nat := Config.ticksPerMs - c.ref % Config.ticksPerMs

/-- Time passes to the next tick of the Line Timebase, and the tick is taken (R94, log 7). -/
def State.toNextTick (s : State) : State := (s.advance s.clock.toTick).tick

/-- One reference tick passes, with the tick of the Line Timebase when it falls due (log 1). -/
def State.referenceTick (s : State) : State :=
  if s.clock.toTick = 1 then (s.advance 1).tick else s.advance 1

/-! ### Reset (R99, R104) -/

/-- The attach events of the carts found at their active level at the release of reset, in input order (R99). -/
def State.attachFound : List Nat → State → State
  | [], s => s
  | n :: ns, s =>
    State.attachFound ns (if (s.input (cartInput n)).active then s.attachCart n else s)

/-- The release of power-on reset (R104), with the levels of the first sample. The model's command queue and count of
free choices are kept. -/
def State.powerOn (levels : BitVec 32) (phaseA phaseB : Phase) (s : State) : State :=
  State.attachFound (List.range 6)
    { State.released levels phaseA phaseB with pending := s.pending, freeCount := s.freeCount }

/-- Reset is asserted: every output is RELEASED and SORT_EXIT holds code 6 (R104). The lanes of the beams follow from
the flag. -/
def State.assertReset (s : State) : State :=
  { s with resetAsserted := true,
           chan := ⟨{ s.chan.a with out := ImagerOut.released }, { s.chan.b with out := ImagerOut.released }⟩,
           line := { s.line with out := LineOut.released },
           punch := { s.punch with dies := List.replicate 12 false },
           bend := { s.bend with outLead := false, outTail := false },
           sorter := { s.sorter with exitCode := 6 } }

end Sys2Proof.Machine
end

