-- ==== Sys2Proof/Machine/Query.lean ====
section
/-! DEFINITION. The results of QUERY (R194), encoded by Table 10.5. Where the table leaves the form of a value open, the
choice is that of log 16. -/

namespace Sys2Proof.Machine

/-! ### Pieces -/

/-- A key and version, absent as all ones and version 0. -/
def optKeyVersion : Option (PageKey × Nat) → List Byte
  | none => allOnes 5 ++ [0]
  | some kv => keyBytes kv.1 ++ be 1 kv.2

/-- The ms left to a window's, a die's or a bend's deadline, 0..65535. -/
def leftBytes (now : Nat) (d : Option Nat) : List Byte := presentWord (d.map (timeLeft now))

/-- The ms left to a receive deadline, 0..60000 (R192). -/
def receiveLeft (now : Nat) (d : Option Nat) : List Byte := optField 2 (d.map (timeLeft now))

/-! ### QUERY PAGE -/

/-- Every field of Table 1.1. -/
def PageRecord.bytes (r : PageRecord) : List Byte :=
  keyBytes r.key ++ be 1 r.version ++ be 1 r.width ++ be 2 r.height ++ be 2 r.bands ++
    (be 2 r.chain.length ++ r.chain.flatMap (be 2)) ++ be 1 (pageStateCode r.state) ++ flagByte r.retain ++
    be 1 r.refs ++ optField 1 r.stream

/-- A record as QUERY PAGE returns it: for a RECEIVING record, also its context's state and the time left. -/
def State.pageBytes (s : State) (r : PageRecord) : List Byte :=
  r.bytes ++ (match r.state, r.stream with
    | .receiving, some t => be 1 (contextCode (s.context t).state) ++ receiveLeft s.now (s.context t).deadline
    | _, _ => [])

/-- Insert a record in ascending version. -/
def insertVersion (r : PageRecord) : List PageRecord → List PageRecord
  | [] => [r]
  | q :: qs => if r.version < q.version then r :: q :: qs else q :: insertVersion r qs

/-- The matching records of a key, in ascending version; version 0 for every record of the key. -/
def Store.matching (t : Store) (k : PageKey) (v : Nat) : List PageRecord :=
  (t.directory.filter fun r => decide (r.key = k) && (decide (v = 0) || decide (r.version = v))).foldr insertVersion []

def State.queryPage (s : State) (k : PageKey) (v : Nat) : Code × List Byte :=
  if !keyOk k then (.range, [])
  else
    match s.store.matching k v with
    | [] => (.notFound, [])
    | rs => (.ok, listOf s.pageBytes rs)

/-! ### QUERY PLATE -/

def Position.bytes (q : Position) : List Byte :=
  optKeyBytes q.key ++ firstByte (!q.rotated) ++ be 2 q.x0 ++ be 2 q.y0 ++ be 1 q.imaged

/-- Every field of Table 2.1, or absent: an absent list is an empty one (log 16). -/
def optEntry (e : Option MapEntry) : List Byte :=
  optPlate (e.map MapEntry.id) ++ optField 1 (e.map MapEntry.size) ++ optField 1 (e.map MapEntry.cls) ++
    optField 1 (e.map fun e => affinityCode e.affinity) ++ (e.map fun e => flagByte e.hold).getD (allOnes 1) ++
    listOf Position.bytes ((e.map MapEntry.positions).getD []) ++ presentByte (e.map MapEntry.generation)

/-- Blocking reasons. DESIGN CHOICE (log 16): they are numbered as R65 lists its eight conditions, QUEUE being 0 and
returned for a build that is not in the queue, and NONE is 255. -/
def blockCode : Option Block → Nat
  | none => 255
  | some .queue => 0
  | some .plateHold => 1
  | some .lineHold => 2
  | some .unassigned => 3
  | some .affinity => 4
  | some .stockEmpty => 5
  | some .stockSize => 6
  | some .drum => 7

/-- The place of a number in a list, counted from 1. -/
def placeOf {α : Type} [DecidableEq α] (a : α) (l : List α) : Option Nat := (l.findIdx? fun b => decide (b = a)).map (· + 1)

/-- The state of an imager, returned when the blocking reason of the build for it reads NONE (R71). DESIGN CHOICE (log 16):
its byte is always there, 255 where the state is not returned. -/
def State.waitedFor (s : State) (b : Build) (i : Imager) : List Byte :=
  optField 1 (if s.blocking i b = none then some (imagerStateCode (s.channel i).seq.state) else none)

/-- The blocking reasons of a build for the two imagers, then the states of the imagers whose reason reads NONE (R71). -/
def State.blockBytes (s : State) (b : Build) : List Byte :=
  be 1 (blockCode (s.blocking .a b)) ++ be 1 (blockCode (s.blocking .b b)) ++ s.waitedFor b .a ++ s.waitedFor b .b

/-- L and X of a copied plate size, 32..65535 and 256..65535 (R27), or absent. -/
def optSize (z : Option Size) : List Byte := optField 2 (z.map Size.l) ++ optField 2 (z.map Size.x)

/-- The bound fan-out, -2000..+2000, or absent. -/
def optFan (f : Option Int) : List Byte := (f.map fanBytes).getD (allOnes 2)

/-- The values of R71 for a build. -/
def State.buildBytes (s : State) (b : Build) : List Byte :=
  be 1 (buildCode b.state) ++ optField 1 (placeOf b.bid s.plates.queue) ++ s.blockBytes b ++
    optField 1 (b.imager.map imagerCode) ++ optField 1 b.press ++ optFan b.fan ++ optSize b.size

/-- The fields of a window (Table 7.1), or absent: the minimum is 0..65535 and the maximum 1..65535 (R134). -/
def optWindow (w : Option Window) : List Byte :=
  optField 1 (w.map fun w => windowCode w.kind) ++ optField 1 (w.map fun w => sensorInput w.sensor) ++
    optTime (w.map Window.start) ++ presentWord (w.map Window.min) ++ optField 2 (w.map Window.max) ++
    optField 1 (w.map fun w => if w.frozen then 1 else 0) ++ optTime (w.bind Window.deadline) ++
    presentWord (w.bind Window.elapsed)

/-- What QUERY PLATE returns of a current item. -/
def Item.plateBytes (it : Item) : List Byte :=
  be 2 it.order ++ be 1 (zoneCode it.zone) ++ be 1 (locationCode it.location) ++ be 1 (causeCode it.cause) ++
    optWindow it.window

/-- A retired build in the list of QUERY PLATE: kind 0, build id, state, retire cause. -/
def Build.retiredBytes (b : Build) : List Byte := [0] ++ be 1 b.bid ++ be 1 (buildCode b.state) ++ be 1 (causeCode b.cause)

/-- A retired item in the list of QUERY PLATE: kind 1, order number, location, retire cause. -/
def Item.retiredBytes (it : Item) : List Byte :=
  [1] ++ be 2 it.order ++ be 1 (locationCode it.location) ++ be 1 (causeCode it.cause)

/-- The retired builds and items of a plate id. DESIGN CHOICE (log 16): the builds by build id, then the items in item list
order. -/
def State.retiredBytes (s : State) (p : PlateId) : List Byte :=
  let bs := s.plates.builds.filter fun b => decide (b.plate = p) && decide (b.cause ≠ .none_)
  let its := s.line.items.filter fun it => decide (it.plate = p) && decide (it.cause ≠ .none_)
  be 1 (bs.length + its.length) ++ bs.flatMap Build.retiredBytes ++ its.flatMap Item.retiredBytes

/-- The kind of the current plate and its values: build 0, item 1, none 2. -/
def State.currentBytes (s : State) (p : PlateId) : List Byte :=
  match s.currentBuild p, s.currentItem p with
  | some b, _ => [0] ++ s.buildBytes b
  | none, some it => [1] ++ it.plateBytes
  | none, none => [2]

/-- No build and no item of the plate id exists. -/
def State.noPlate (s : State) (p : PlateId) : Bool :=
  s.plates.builds.all (fun b => decide (b.plate ≠ p)) && s.line.items.all fun it => decide (it.plate ≠ p)

def State.queryPlate (s : State) (p : PlateId) : Code × List Byte :=
  if !plateOk p then (.range, [])
  else if (s.entry p).isNone && s.noPlate p then (.notFound, [])
  else
    (.ok, optEntry (s.entry p) ++ optField 1 (placeOf p s.plates.pendingList) ++ s.currentBytes p ++ s.retiredBytes p)

/-! ### QUERY IMAGER -/

/-- The build held and its plate id. -/
def State.heldBytes (s : State) (i : Imager) : List Byte :=
  let bid := (s.channel i).seq.build
  optField 1 bid ++ optPlate ((bid.bind s.build).map Build.plate)

/-- A buffer's state and, while it is not FREE, its swath number. -/
def Buffer.bytes (b : Buffer) : List Byte :=
  be 1 (bufferCode b.state) ++ optField 2 (if b.state = .free then none else some b.swath)

/-- The values of R92. -/
def Composer.bytes (c : Composer) : List Byte :=
  firstByte c.job.isNone ++ optField 2 (c.job.map Job.n) ++ be 2 c.nextFill ++ be 2 c.nextEmit ++ c.buf0.bytes ++
    c.buf1.bytes

/-- The settings with E, W_t and the window (R128). DESIGN CHOICE (log 16): E, W_t and the two window ends take 4 bytes each,
as the 24-bit counter values do. -/
def Settings.bytes (t : Settings) : List Byte :=
  be 2 t.d ++ be 2 t.pRev ++ be 4 t.c ++ be 1 t.mult ++ be 1 t.tol ++ be 2 t.g ++ be 1 t.skipLimit ++ be 4 t.e ++
    be 4 t.wt ++ be 4 (t.e - t.wt) ++ be 4 (t.e + t.wt)

/-- The counters and the last judgment with its reason (R128); valid is 0, invalid 1. -/
def Drum.bytes (d : Drum) : List Byte :=
  be 4 d.position ++ be 4 d.period ++ be 4 d.latch ++ be 4 d.net ++ firstByte d.judgment.isNone ++
    optField 1 (d.judgment.map reasonCode)

/-- The values of R128. -/
def State.sequencerBytes (s : State) (i : Imager) : List Byte :=
  let c := s.channel i
  be 1 (imagerStateCode c.seq.state) ++ c.settings.bytes ++ s.heldBytes i ++ flagByte c.seq.retired ++
    be 1 c.seq.validRun ++ be 1 c.seq.skipRun ++ be 2 c.seq.skipped ++ be 2 c.seq.steps ++ be 2 c.seq.written ++
    optFault c.seq.fault ++ c.drum.bytes

def State.queryImager (s : State) (n : Nat) : Code × List Byte :=
  match imagerOf n with
  | none => (.range, [])
  | some i =>
    let t := s.sched.stock.get i
    (.ok, be 1 t.size ++ be 1 t.count ++ s.heldBytes i ++ (s.channel i).composer.bytes ++ s.sequencerBytes i)

/-! ### QUERY LINE -/

/-- The values of R71: the Line Assignment and the line hold flags. -/
def Scheduler.bytes (t : Scheduler) : List Byte :=
  t.assignment.flatMap (optField 1) ++ t.lineHolds.flatMap flagByte

/-- An input in R105; levels are listed high, low (Table 5.2). -/
def Input.bytes (n : Input) : List Byte :=
  firstByte n.rising ++ be 1 n.filter ++ firstByte n.filtered ++ flagByte n.change.isSome

/-- An on-off output: DRIVEN 0, RELEASED 1 (R101). -/
def driven (v : Bool) : List Byte := firstByte v

/-- Every actuator output in the order of Table 5.3. -/
def State.outputBytes (s : State) : List Byte :=
  let a := s.chan.a.out
  let b := s.chan.b.out
  let o := s.line.out
  driven a.drumRun ++ driven b.drumRun ++ driven a.load ++ driven b.load ++ driven a.eject ++ driven b.eject ++
    driven a.step ++ driven b.step ++ driven o.convTransfer ++ driven o.convLink ++ driven o.convOutfeed ++
    driven o.gatePunch ++ driven o.gateBend ++ driven o.gateSort ++ s.punch.dies.flatMap driven ++
    driven s.bend.outLead ++ driven s.bend.outTail ++ be 1 s.sorter.exitCode

/-- An item with the fields of Table 7.1 and its window's remaining time (R156). -/
def Item.bytes (now : Nat) (it : Item) : List Byte :=
  be 2 it.order ++ Machine.plateBytes it.plate ++ be 1 it.generation ++ listOf (bindingBytes none) it.bindings ++
    be 1 it.press ++ be 1 (causeCode it.cause) ++ be 1 (zoneCode it.zone) ++ be 1 (locationCode it.location) ++
    optField 1 (it.source.map imagerCode) ++ optField 1 (it.work.map workCode) ++ optWindow it.window ++
    leftBytes now (it.window.bind fun w => w.deadline)

/-- An imager's exit request (R136). DESIGN CHOICE (log 16): its class and its place in the order taken, from 1. -/
def Merge.requestBytes (m : Merge) (i : Imager) : List Byte :=
  let r := m.requests.find? fun q => decide (q.imager = i)
  optField 1 (r.map ExitRequest.cls) ++
    optField 1 ((m.requests.findIdx? fun q => decide (q.imager = i)).map (· + 1))

def WindowEntry.bytes (e : WindowEntry) : List Byte := be 2 e.min ++ be 2 e.max

/-- The values of R156. -/
def Line.bytes (l : Line) (now : Nat) : List Byte :=
  be 1 (lineCode l.state) ++ optHalt l.halt ++
    [Zone.transfer, .punch, .link, .bend, .outfeed, .sort].flatMap (fun z => be 1 (l.inZone z).length) ++
    listOf (Item.bytes now) l.items ++ l.merge.requestBytes .a ++ l.merge.requestBytes .b ++
    optTime l.merge.lastGrant ++ optTime l.merge.deadline ++ l.table.kinds.flatMap WindowEntry.bytes ++
    be 2 l.table.spacing

/-- The pattern copy, or a pattern of the Pattern Table: a list, empty when absent. -/
def optPattern (p : Option (List Nat)) : List Byte := listOf (be 1) (p.getD [])

/-- The punch station record as R171 lists it. -/
def Punch.bytes (p : Punch) (now : Nat) : List Byte :=
  be 1 (punchCode p.state) ++ presentWord p.item ++ optPattern p.pattern ++ be 1 p.nextDie ++ optField 1 p.die ++
    leftBytes now p.deadline ++ flagByte p.halted ++ be 2 p.strays

/-- A profile: its two flags, all ones when absent. -/
def optProfile (p : Option Profile) : List Byte := (p.map fun q => flagByte q.lead ++ flagByte q.tail).getD (allOnes 2)

/-- The bend station record as R171 lists it. -/
def Bend.bytes (b : Bend) (now : Nat) : List Byte :=
  be 1 (bendCode b.state) ++ presentWord b.item ++ optProfile b.profile ++ optField 1 (b.bend.map bendKindCode) ++
    leftBytes now b.deadline ++ flagByte b.halted ++ be 2 b.strays

/-- A Press Table entry (R157), or undefined. -/
def optPress (p : Option Press) : List Byte :=
  optField 1 (p.map Press.pattern) ++ optField 1 (p.map Press.profile) ++
    (p.map fun q => q.fans.flatMap fanBytes).getD (allOnes 8)

/-- The values of R171. -/
def State.stationBytes (s : State) : List Byte :=
  s.punch.bytes s.now ++ s.bend.bytes s.now ++ s.punch.presses.flatMap optPress ++
    s.punch.patterns.flatMap optPattern ++ s.bend.profiles.flatMap optProfile ++ be 2 s.link.timing.die ++
    be 2 s.link.timing.bend

/-- A cart record (R185): layout, slot count, presence (PRESENT 0, ABSENT 1), occupancy. -/
def Cart.bytes (c : Cart) : List Byte :=
  (c.layout.map fun l => be 1 l.units ++ be 1 l.acrosses).getD (allOnes 2) ++ optField 1 (c.layout.map Layout.slots) ++
    firstByte c.present ++ listOf (be 1) c.occupancy

/-- A destination (Table 9.2). DESIGN CHOICE (log 16): a kind byte, cart 0, REJECT 1, REMAKE 2, then the cart's number and
slot, absent for the chutes. -/
def optDestination : Option Destination → List Byte
  | none => allOnes 3
  | some (.cart n slot) => [0] ++ be 1 n ++ be 1 slot
  | some .reject => [1, 255, 255]
  | some .remake => [2, 255, 255]

/-- The values of R185. In IDLE redirected here is returned clear, the choice of log 40. -/
def Sorter.bytes (t : Sorter) : List Byte :=
  t.carts.flatMap Cart.bytes ++ be 1 t.rejects ++ be 1 t.remakes ++ be 1 (sortCode t.state) ++ presentWord t.item ++
    optDestination t.destination ++ optField 1 (t.divert.map divertCode) ++ flagByte t.redirected

def State.queryLine (s : State) : Code × List Byte :=
  (.ok, s.sched.bytes ++ be 4 s.now ++ s.inputs.flatMap Input.bytes ++ s.outputBytes ++ s.line.bytes s.now ++
    s.stationBytes ++ s.sorter.bytes)

/-! ### QUERY STORE -/

/-- A receive context (Table 1.2) with the time left to its deadline. -/
def Context.bytes (now : Nat) (c : Context) : List Byte :=
  be 1 (contextCode c.state) ++ optKeyVersion c.record ++ be 2 c.nextBand ++ optTime c.deadline ++ receiveLeft now c.deadline

/-- The Timing Table in entry order (R192). -/
def Timing.bytes (t : Timing) : List Byte :=
  be 2 t.receive ++ be 2 t.load ++ be 2 t.spinup ++ be 2 t.die ++ be 2 t.bend

/-- A condition source: whether it is pending, and its repeat count. DESIGN CHOICE (log 16): the count of a source that is
not pending is 0. -/
def Slots.bytes (t : Slots) (src : Source) : List Byte :=
  flagByte (t.get src).isSome ++ be 1 (((t.get src).map Condition.repeats).getD 0)

/-- The reports in the event queue at a level. -/
def Reports.atLevel (r : Reports) (level : Nat) : Nat := r.events.countP fun e => decide (e.body.level = level)

/-- The number of requests in the request queue while a QUERY is applied: the QUERY itself is among them (R190), also one
that arrived on the empty queue and is applied as it arrives (log 3). -/
def Link.requestCount (l : Link) : Nat := max 1 l.requests.length

def State.queryStore (s : State) : Code × List Byte :=
  (.ok, be 2 s.store.freeCells ++ be 2 s.store.idleCells.length ++ be 2 s.store.directory.length ++
    s.rx.contexts.flatMap (Context.bytes s.now) ++ flagByte s.rx.writer.isSome ++ flagByte s.link.holding.isSome ++
    presentByte (s.link.holding.map BandFrame.tag) ++ presentWord (s.link.holding.map BandFrame.index) ++
    be 1 (requesterCode s.store.port.last) ++ s.link.timing.bytes ++ be 1 s.link.requestCount ++
    be 1 s.link.replies.length ++ [0, 1, 2, 3].flatMap (fun n => be 1 (s.reports.atLevel n)) ++
    Source.all.flatMap s.reports.slots.bytes ++ be 1 s.reports.mask ++ be 1 s.reports.seq)

end Sys2Proof.Machine
end

