-- ==== Sys2Proof/Machine/Requests.lean ====
section
/-! DEFINITION. The requests of Table 10.7: how a request is handed on and answered (R191), what each does, and its
command. -/

namespace Sys2Proof.Machine

/-! ### Handing on (R191) -/

/-- What an owner makes of a request: the state it leaves, the completion code and the result. -/
structure Answer where
  state : State
  code : Code
  result : List Byte

/-- The request is accepted with OK and leaves the state `s`. -/
def accept (s : State) : Answer := ⟨s, .ok, []⟩

/-- The request is refused with a code and changes nothing. -/
def refuse (c : Code) (s : State) : Answer := ⟨s, c, []⟩

/-- A query's code and result; a query changes no state (R194). -/
def answered (r : Code × List Byte) (s : State) : Answer := ⟨s, r.1, r.2⟩

/-- The owner has finished, and the dispatch pass that its work calls for is made (R66, log 5): the request at the head
leaves the queue and its reply is made (R191). -/
def Answer.replied (a : Answer) (t : TaggedRequest) : State :=
  let s := a.state.makePass
  State.addReply ⟨t.tag, kindOf t.request, a.code, a.result⟩
    { s with link := { s.link with requests := s.link.requests.tail } }

/-- The request is the one to be handed on next: the head of the queue, or, with the queue empty, one that arrives as it
is applied (log 3). -/
def Link.handsOn (l : Link) (t : TaggedRequest) : Bool :=
  match l.requests with
  | [] => true
  | u :: _ => decide (u = t)

/-- A request is handed to its owner when the reply list has room (R191). With the list full, a request that arrives as
it would be applied joins the empty queue. -/
def State.handOn (t : TaggedRequest) (apply : State → Answer) (s : State) : State :=
  if s.link.handsOn t then
    if s.link.replies.length < Config.maxReplies then (apply s).replied t
    else if s.link.requests.isEmpty then { s with link := { s.link with requests := [t] } }
    else s
  else s

/-- The command of a request. -/
def request (t : TaggedRequest) (apply : State → Answer) (s : State) : Host.Outcome State Fault Refusal :=
  taken (fun s => s.handOn t apply) s

/-! ### Chapter 1 -/

/-- PAGE OPEN (R9, R10). -/
def applyPageOpen (stream : Nat) (k : PageKey) (v width height retain : Nat) (s : State) : Answer :=
  if !(decide (stream ≤ 7) && keyOk k && versionOk v && decide (1 ≤ width) && decide (width ≤ 64) &&
      decide (1 ≤ height) && decide (height ≤ 512) && (flagOf retain).isSome) then refuse .range s
  else if (s.context stream).state ≠ .idle then refuse .busy s
  else if s.store.directory.any fun r => decide (r.key = k) && decide (v ≤ r.version) then refuse .stale s
  else if Config.maxRecords ≤ s.store.directory.length then refuse .full s
  else if s.store.freeCells < height then refuse .noSpace s
  else
    let r : PageRecord :=
      { key := k, version := v, width := width, height := height, bands := 0, chain := [], state := .receiving,
        retain := decide (retain = 1), refs := 0, stream := some stream }
    let c : Context :=
      { state := .receiving, record := some (k, v), nextBand := 0,
        deadline := some (deadlineAfter s.now s.link.timing.receive) }
    accept (State.setContext stream c { s with
      store := { s.store with directory := s.store.directory ++ [r], freeCells := s.store.freeCells - height } })

/-- PAGE ABANDON (R16); the writer may become free and take the held frame (R189). -/
def applyPageAbandon (stream : Nat) (s : State) : Answer :=
  if 8 ≤ stream then refuse .range s
  else if (s.context stream).state = .idle then refuse .notFound s
  else
    match (s.context stream).record.bind fun kv => s.store.find kv.1 kv.2 with
    | none => refuse .notFound s
    | some r => accept (s.dropRecord r .abandoned none 0).passHeld

/-- PAGE RELEASE (R17). -/
def applyPageRelease (k : PageKey) (v : Nat) (s : State) : Answer :=
  if !(keyOk k && versionOk v) then refuse .range s
  else
    match s.store.find k v with
    | none => refuse .notFound s
    | some _ => accept { s with store := (s.store.modify k v fun r => { r with retain := false }).evalFree k v }

/-! ### Chapter 2 -/

/-- SIZE LOAD (R27), with the dispatch pass of R66. -/
def applySizeLoad (code l x : Nat) (s : State) : Answer :=
  if !(decide (code ≤ 3) && decide (32 ≤ l) && decide (l ≤ 65535) && decide (256 ≤ x) && decide (x ≤ 65535)) then
    refuse .range s
  else accept (State.dispatchPass { s with plates := { s.plates with sizes := s.plates.sizes.set code (some ⟨l, x⟩) } })

/-- The key of a position as received; page number 0 means BLANK (Table 10.5). -/
def positionKey (p : PosArgs) : Option PageKey := if p.key.page = 0 then none else some p.key

/-- The position that a request describes, never imaged. -/
def positionOf (p : PosArgs) : Position :=
  { key := positionKey p, rotated := decide (p.rotation = 1), x0 := p.x0, y0 := p.y0, imaged := 0 }

/-- Condition 1 of R30 for a position. -/
def positionInRange (p : PosArgs) : Bool :=
  (match positionKey p with
    | none => true
    | some k => keyOk k) && (flagOf p.rotation).isSome

/-- Condition 2 of R30 holds for no position under the size: every offset of a position that is not BLANK lies inside. -/
def positionInside (z : Size) (p : PosArgs) : Bool := (positionKey p).isNone || (decide (p.x0 < z.x) && decide (p.y0 < z.l))

/-- The entries of the map that contain the key, without the entry of the plate id (R30 condition 5). -/
def State.otherEntries (s : State) (p : PlateId) (k : PageKey) : Nat :=
  s.plates.map.countP fun e => decide (e.id ≠ p) && e.contains k

/-- The Plate Build Table holds a build for the plate id (R30 condition 4, R31). -/
def State.inUse (s : State) (p : PlateId) : Bool := s.plates.builds.any fun b => decide (b.plate = p)

/-- The first condition of R30 that holds. -/
def State.mapRefusal (s : State) (p : PlateId) (size cls : Nat) (aff : Option Affinity) (ps : List PosArgs) :
    Option Code :=
  let keys := ps.filterMap positionKey
  if !(plateOk p && decide (size ≤ 3) && decide (cls ≤ 3) && aff.isSome &&
      (decide (ps.length = 1) || decide (ps.length = 2) || decide (ps.length = 4)) && ps.all positionInRange) then
    some .range
  else
    match s.sizeOf size with
    | none => some .range
    | some z =>
      if !ps.all (positionInside z) then some .range
      else if !decide keys.Nodup then some .range
      else if s.inUse p then some .inUse
      else if keys.any fun k => decide (Config.maxEntriesPerKey < s.otherEntries p k + 1) then some .limit
      else if (s.entry p).isNone && decide (Config.maxEntries ≤ s.plates.map.length) then some .full
      else none

/-- MAP LOAD (R29, R30): the entry is written and its build-need check made. -/
def applyMapLoad (p : PlateId) (size cls affinity : Nat) (ps : List PosArgs) (s : State) : Answer :=
  match s.mapRefusal p size cls (affinityOf affinity) ps with
  | some c => refuse c s
  | none =>
    let e : MapEntry :=
      { id := p, size := size, cls := cls, affinity := (affinityOf affinity).getD .any,
        hold := ((s.entry p).map MapEntry.hold).getD false, positions := ps.map positionOf, generation := 0 }
    let s : State := { s with plates := { s.plates with map := putEntry e s.plates.map } }
    accept (s.needCheck p none)

/-- MAP DELETE (R31). -/
def applyMapDelete (p : PlateId) (s : State) : Answer :=
  if !plateOk p then refuse .range s
  else if (s.entry p).isNone then refuse .notFound s
  else if s.inUse p then refuse .inUse s
  else accept (State.leavePending p { s with plates := { s.plates with
      map := s.plates.map.filter fun e => decide (e.id ≠ p) } })

/-- PLATE CANCEL (R52, R53). -/
def applyPlateCancel (p : PlateId) (s : State) : Answer :=
  if !plateOk p then refuse .range s
  else
    match s.currentBuild p, s.currentItem p with
    | some b, _ =>
      if b.state.waits then accept (s.removeBuild b) else accept (s.retireBuild b .cancelled)
    | none, some it => accept (s.retireItem it.order .cancelled)
    | none, none => refuse .notFound s

/-- REPLATE (R54): form 0 names a plate id, form 1 a logical line. -/
def applyReplate (form : Nat) (p : PlateId) (s : State) : Answer :=
  match form with
  | 0 =>
    if !plateOk p then refuse .range s
    else if (s.entry p).isNone then refuse .notFound s
    else accept (s.replateAll [p])
  | 1 =>
    if 7 < p.line then refuse .range s
    else accept (s.replateAll ((s.plates.map.filter fun e => decide (e.id.line = p.line)).map MapEntry.id))
  | _ => refuse .range s

/-! ### Chapter 3 -/

/-- PLATE HOLD and PLATE RELEASE (R59): the hold flag takes the value; the pass of R66 follows. -/
def applyHold (p : PlateId) (hold : Bool) (s : State) : Answer :=
  if !plateOk p then refuse .range s
  else if (s.entry p).isNone then refuse .notFound s
  else accept (s.modifyEntry p fun e => { e with hold := hold }).dispatchPass

/-- LINE HOLD and LINE RELEASE (R60): the line hold flag takes the value; the pass of R66 follows. -/
def applyLineHold (line : Nat) (hold : Bool) (s : State) : Answer :=
  if 7 < line then refuse .range s
  else accept (State.dispatchPass { s with sched := { s.sched with lineHolds := s.sched.lineHolds.set line hold } })

/-- The press of LINE ASSIGN: 0..5, or 255 for NONE (Table 10.5). -/
def pressOf (n : Nat) : Option (Option Nat) := if n ≤ 5 then some (some n) else if n = 255 then some none else none

/-- LINE ASSIGN (R61); the pass of R66 follows. -/
def applyLineAssign (line press : Nat) (s : State) : Answer :=
  match pressOf press with
  | none => refuse .range s
  | some q =>
    if 7 < line then refuse .range s
    else if (q.map fun n => (s.press n).isNone).getD false then refuse .notFound s
    else accept (State.dispatchPass { s with sched := { s.sched with assignment := s.sched.assignment.set line q } })

/-- The imager is IDLE or FAULT (R63, R113). -/
def ImagerState.settable : ImagerState → Bool
  | .idle => true
  | .fault => true
  | _ => false

/-- STOCK SET (R63); the pass is made before the reply. -/
def applyStockSet (imager size count : Nat) (s : State) : Answer :=
  match imagerOf imager with
  | none => refuse .range s
  | some i =>
    if !(decide (size ≤ 3) && decide (count ≤ 255)) then refuse .range s
    else if !(s.channel i).seq.state.settable then refuse .busy s
    else accept (State.dispatchPass { s with sched := { s.sched with stock := s.sched.stock.set i ⟨size, count⟩ } })

/-! ### Chapter 5 -/

/-- SENSOR SET (R100). -/
def applySensorSet (input edge filter : Nat) (s : State) : Answer :=
  match firstOf edge with
  | none => refuse .range s
  | some rising =>
    if !(decide (input ≤ 31) && decide (filter ≤ 15)) then refuse .range s
    else accept (s.configureInput input rising filter)

/-! ### Chapter 6 -/

/-- Every setting lies in its range (Table 6.3). -/
def settingsInRange (a : SettingArgs) : Bool :=
  decide (a.d ≤ 4095) && decide (1 ≤ a.pRev) && decide (a.pRev ≤ 65535) && decide (1 ≤ a.c) &&
    decide (a.c ≤ 16777215) && (decide (a.mult = 1) || decide (a.mult = 2) || decide (a.mult = 4)) &&
    decide (1 ≤ a.tol) && decide (a.tol ≤ 64) && decide (a.g ≤ 65535) && decide (1 ≤ a.skipLimit) &&
    decide (a.skipLimit ≤ 7)

/-- The settings of a request with E and W_t (R110, R112). -/
def settingsOf (a : SettingArgs) : Settings :=
  let e := expectedPeriod a.pRev a.d
  { d := a.d, pRev := a.pRev, c := a.c, mult := a.mult, tol := a.tol, g := a.g, skipLimit := a.skipLimit, e := e,
    wt := toleranceHalf e a.tol }

/-- IMAGER SET (R113); for an IDLE imager the pass is made before the reply. -/
def applyImagerSet (imager : Nat) (a : SettingArgs) (s : State) : Answer :=
  match imagerOf imager with
  | none => refuse .range s
  | some i =>
    let t := settingsOf a
    if !settingsInRange a then refuse .range s
    else if 16777215 < t.e + t.wt then refuse .range s
    else if !(s.channel i).seq.state.settable then refuse .busy s
    else
      let s' := s.setChannel i { s.channel i with settings := t }
      accept (if (s.channel i).seq.state = .idle then s'.dispatchPass else s')

/-- IMAGER CLEAR (R127); the reply follows the pass. -/
def applyImagerClear (imager : Nat) (s : State) : Answer :=
  match imagerOf imager with
  | none => refuse .range s
  | some i =>
    if (s.channel i).seq.state ≠ .fault then refuse .badState s
    else accept (s.modifySeq i fun q => { q with state := .idle, fault := none }).dispatchPass

/-! ### Chapter 7 -/

/-- WINDOW LOAD (R134): entries 0..7 are the window kinds, 8 is SPACING. -/
def applyWindowLoad (entry lo hi : Nat) (s : State) : Answer :=
  if !(decide (entry ≤ 8) && decide (1 ≤ hi) && decide (hi ≤ 65535)) then refuse .range s
  else if entry = 8 then accept { s with line := { s.line with table := { s.line.table with spacing := hi } } }
  else if hi < lo then refuse .range s
  else accept { s with line := { s.line with table := { s.line.table with kinds := s.line.table.kinds.set entry ⟨lo, hi⟩ } } }

/-- The line may be started: STOPPED, or HALTED with cause STOP (R150). -/
def Line.startable (l : Line) : Bool :=
  match l.state with
  | .stopped => true
  | .running => false
  | .halted => decide (l.halt.map HaltRecord.cause = some .stop)

/-- LINE START (R150). -/
def applyLineStart (s : State) : Answer :=
  if s.line.startable then accept s.returnToRunning else refuse .badState s

/-- LINE STOP (R150). -/
def applyLineStop (s : State) : Answer :=
  if s.line.state = .running then accept (s.haltLine .stop none none none) else refuse .badState s

/-- LINE RESUME (R151): 0 KEEP, 1 REMOVE. -/
def applyLineResume (disposition : Nat) (s : State) : Answer :=
  match firstOf disposition with
  | none => refuse .range s
  | some keep =>
    if s.line.state ≠ .halted then refuse .badState s
    else if (s.line.halt.map s.exitStillFull).getD false then refuse .badState s
    else if keep then accept s.returnToRunning
    else
      match s.removable with
      | none => refuse .badState s
      | some it => ⟨(s.removeItem it).returnToRunning, .ok, it.removedBytes⟩

/-! ### Chapter 8 -/

/-- PRESS SET (R157). -/
def applyPressSet (press pattern profile : Nat) (fans : List Int) (s : State) : Answer :=
  if !(decide (press ≤ 5) && decide (pattern ≤ 15) && decide (profile ≤ 7) && fans.all fanOk) then refuse .range s
  else if (s.punch.patterns.getD pattern none).isNone || (s.bend.profiles.getD profile none).isNone then
    refuse .notFound s
  else accept { s with punch := { s.punch with presses := s.punch.presses.set press (some ⟨pattern, profile, fans⟩) } }

/-- PATTERN LOAD (R158). -/
def applyPatternLoad (pattern : Nat) (dies : List Nat) (s : State) : Answer :=
  if !(decide (pattern ≤ 15) && decide (1 ≤ dies.length) && decide (dies.length ≤ 8) &&
      dies.all (fun n => decide (n ≤ 11)) && decide dies.Nodup) then refuse .range s
  else accept { s with punch := { s.punch with patterns := s.punch.patterns.set pattern (some dies) } }

/-- PROFILE LOAD (R159). -/
def applyProfileLoad (profile lead tail : Nat) (s : State) : Answer :=
  match flagOf lead, flagOf tail with
  | some a, some b =>
    if 7 < profile then refuse .range s
    else accept { s with bend := { s.bend with profiles := s.bend.profiles.set profile (some ⟨a, b⟩) } }
  | _, _ => refuse .range s

/-! ### Chapter 9 -/

/-- CART LAYOUT (R173). -/
def applyCartLayout (cart units acrosses : Nat) (s : State) : Answer :=
  if !(decide (cart ≤ 5) && decide (1 ≤ units) && decide (units ≤ 12) && decide (1 ≤ acrosses) &&
      decide (acrosses ≤ 4)) then refuse .range s
  else if Config.maxSlots < units * 2 * acrosses then refuse .range s
  else
    let c : Cart := { s.sorter.cart cart with layout := some ⟨units, acrosses⟩, occupancy := [] }
    accept { s with sorter := s.sorter.setCart cart c }

/-! ### Chapter 10 -/

/-- The largest value of an entry of the Timing Table (R192). -/
def timingLimit : Nat → Option Nat
  | 0 => some 60000
  | 1 => some 65535
  | 2 => some 65535
  | 3 => some 65535
  | 4 => some 65535
  | _ => none

/-- An entry of the Timing Table takes a value. -/
def Timing.put (t : Timing) (entry v : Nat) : Timing :=
  match entry with
  | 0 => { t with receive := v }
  | 1 => { t with load := v }
  | 2 => { t with spinup := v }
  | 3 => { t with die := v }
  | 4 => { t with bend := v }
  | _ => t

/-- TIMING LOAD (R192). -/
def applyTimingLoad (entry v : Nat) (s : State) : Answer :=
  match timingLimit entry with
  | none => refuse .range s
  | some hi =>
    if v = 0 ∨ hi < v then refuse .range s
    else accept { s with link := { s.link with timing := s.link.timing.put entry v } }

/-- REPORT MASK (R193). -/
def applyReportMask (level : Nat) (s : State) : Answer :=
  if 4 < level then refuse .range s else accept { s with reports := { s.reports with mask := level } }

/-- RESTART (R198): the seven steps, in order; the sensors and the timebase are kept. -/
def applyRestart (s : State) : Answer :=
  let builds := s.plates.builds
  let s : State := { s with reports := { s.reports with events := [], slots := ⟨none, none, none, none, none, none, none⟩ } }
  let s : State := { s with link := { s.link with holding := none } }
  let s := s.restartPages
  let s : State := { s with plates := { s.plates with builds := [], queue := [], pendingList := [] } }
  let s := (s.restartImager .a builds).restartImager .b builds
  accept s.restartLine

/-! ### The commands -/

def execPageOpen (tag stream : Nat) (k : PageKey) (v width height retain : Nat) (s : State) :
    Host.Outcome State Fault Refusal :=
  request ⟨tag, .pageOpen stream k v width height retain⟩ (applyPageOpen stream k v width height retain) s

def execPageAbandon (tag stream : Nat) (s : State) : Host.Outcome State Fault Refusal :=
  request ⟨tag, .pageAbandon stream⟩ (applyPageAbandon stream) s

def execPageRelease (tag : Nat) (k : PageKey) (v : Nat) (s : State) : Host.Outcome State Fault Refusal :=
  request ⟨tag, .pageRelease k v⟩ (applyPageRelease k v) s

def execMapLoad (tag : Nat) (p : PlateId) (size cls affinity : Nat) (ps : List PosArgs) (s : State) :
    Host.Outcome State Fault Refusal :=
  request ⟨tag, .mapLoad p size cls affinity ps⟩ (applyMapLoad p size cls affinity ps) s

def execMapDelete (tag : Nat) (p : PlateId) (s : State) : Host.Outcome State Fault Refusal :=
  request ⟨tag, .mapDelete p⟩ (applyMapDelete p) s

def execSizeLoad (tag code l x : Nat) (s : State) : Host.Outcome State Fault Refusal :=
  request ⟨tag, .sizeLoad code l x⟩ (applySizeLoad code l x) s

def execPlateHold (tag : Nat) (p : PlateId) (s : State) : Host.Outcome State Fault Refusal :=
  request ⟨tag, .plateHold p⟩ (applyHold p true) s

def execPlateRelease (tag : Nat) (p : PlateId) (s : State) : Host.Outcome State Fault Refusal :=
  request ⟨tag, .plateRelease p⟩ (applyHold p false) s

def execLineHold (tag line : Nat) (s : State) : Host.Outcome State Fault Refusal :=
  request ⟨tag, .lineHold line⟩ (applyLineHold line true) s

def execLineRelease (tag line : Nat) (s : State) : Host.Outcome State Fault Refusal :=
  request ⟨tag, .lineRelease line⟩ (applyLineHold line false) s

def execPlateCancel (tag : Nat) (p : PlateId) (s : State) : Host.Outcome State Fault Refusal :=
  request ⟨tag, .plateCancel p⟩ (applyPlateCancel p) s

def execReplate (tag form : Nat) (p : PlateId) (s : State) : Host.Outcome State Fault Refusal :=
  request ⟨tag, .replate form p⟩ (applyReplate form p) s

def execPressSet (tag press pattern profile : Nat) (fans : List Int) (s : State) : Host.Outcome State Fault Refusal :=
  request ⟨tag, .pressSet press pattern profile fans⟩ (applyPressSet press pattern profile fans) s

def execLineAssign (tag line press : Nat) (s : State) : Host.Outcome State Fault Refusal :=
  request ⟨tag, .lineAssign line press⟩ (applyLineAssign line press) s

def execPatternLoad (tag pattern : Nat) (dies : List Nat) (s : State) : Host.Outcome State Fault Refusal :=
  request ⟨tag, .patternLoad pattern dies⟩ (applyPatternLoad pattern dies) s

def execProfileLoad (tag profile lead tail : Nat) (s : State) : Host.Outcome State Fault Refusal :=
  request ⟨tag, .profileLoad profile lead tail⟩ (applyProfileLoad profile lead tail) s

def execCartLayout (tag cart units acrosses : Nat) (s : State) : Host.Outcome State Fault Refusal :=
  request ⟨tag, .cartLayout cart units acrosses⟩ (applyCartLayout cart units acrosses) s

def execWindowLoad (tag entry lo hi : Nat) (s : State) : Host.Outcome State Fault Refusal :=
  request ⟨tag, .windowLoad entry lo hi⟩ (applyWindowLoad entry lo hi) s

def execTimingLoad (tag entry v : Nat) (s : State) : Host.Outcome State Fault Refusal :=
  request ⟨tag, .timingLoad entry v⟩ (applyTimingLoad entry v) s

def execSensorSet (tag input edge filter : Nat) (s : State) : Host.Outcome State Fault Refusal :=
  request ⟨tag, .sensorSet input edge filter⟩ (applySensorSet input edge filter) s

def execImagerSet (tag imager : Nat) (a : SettingArgs) (s : State) : Host.Outcome State Fault Refusal :=
  request ⟨tag, .imagerSet imager a⟩ (applyImagerSet imager a) s

def execStockSet (tag imager size count : Nat) (s : State) : Host.Outcome State Fault Refusal :=
  request ⟨tag, .stockSet imager size count⟩ (applyStockSet imager size count) s

def execImagerClear (tag imager : Nat) (s : State) : Host.Outcome State Fault Refusal :=
  request ⟨tag, .imagerClear imager⟩ (applyImagerClear imager) s

def execLineStart (tag : Nat) (s : State) : Host.Outcome State Fault Refusal :=
  request ⟨tag, .lineStart⟩ applyLineStart s

def execLineStop (tag : Nat) (s : State) : Host.Outcome State Fault Refusal :=
  request ⟨tag, .lineStop⟩ applyLineStop s

def execLineResume (tag disposition : Nat) (s : State) : Host.Outcome State Fault Refusal :=
  request ⟨tag, .lineResume disposition⟩ (applyLineResume disposition) s

def execReportMask (tag level : Nat) (s : State) : Host.Outcome State Fault Refusal :=
  request ⟨tag, .reportMask level⟩ (applyReportMask level) s

def execQueryPage (tag : Nat) (k : PageKey) (v : Nat) (s : State) : Host.Outcome State Fault Refusal :=
  request ⟨tag, .queryPage k v⟩ (fun s => answered (s.queryPage k v) s) s

def execQueryPlate (tag : Nat) (p : PlateId) (s : State) : Host.Outcome State Fault Refusal :=
  request ⟨tag, .queryPlate p⟩ (fun s => answered (s.queryPlate p) s) s

def execQueryImager (tag imager : Nat) (s : State) : Host.Outcome State Fault Refusal :=
  request ⟨tag, .queryImager imager⟩ (fun s => answered (s.queryImager imager) s) s

def execQueryLine (tag : Nat) (s : State) : Host.Outcome State Fault Refusal :=
  request ⟨tag, .queryLine⟩ (fun s => answered s.queryLine s) s

def execQueryStore (tag : Nat) (s : State) : Host.Outcome State Fault Refusal :=
  request ⟨tag, .queryStore⟩ (fun s => answered s.queryStore s) s

def execRestart (tag : Nat) (s : State) : Host.Outcome State Fault Refusal :=
  request ⟨tag, .restart⟩ applyRestart s

end Sys2Proof.Machine
end

