-- ==== Sys2Proof/Machine/Events.lean ====
section
/-! DEFINITION. The commands that are no requests: the events of the table. An event whose own conditions do not hold
changes nothing (log 2). -/

namespace Sys2Proof.Machine

/-! ### The store port (R6) -/

/-- The transfer in progress stays inside its cell and the raster store (log 22). -/
def State.transferInside (s : State) (t : Transfer) : Bool :=
  t.discarded || (match t.by_ with
    | .receive =>
      match s.rx.writer with
      | none => true
      | some j => insideStore j.cell j.offset (j.width * 32)
    | .a => (s.channel .a).composer.transferInside
    | .b => (s.channel .b).composer.transferInside)

/-- The requester takes the result of its transfer, unless it is discarded (R6, R7, R88). -/
def State.takeTransfer (t : Transfer) (s : State) : State :=
  if t.discarded then s
  else
    match t.by_ with
    | .receive =>
      match s.rx.writer with
      | none => s
      | some j => s.lineWritten j
    | .a => s.segmentRead .a
    | .b => s.segmentRead .b

/-- The port is free, and a waiting requester is granted (R6). -/
def State.arbitratePort (s : State) : State := { s with store := { s.store with port := s.store.port.arbitrate } }

/-- The transfer in progress ends (R6). -/
def State.transferEnds (t : Transfer) (s : State) : State :=
  (State.takeTransfer t { s with store := { s.store with port := { s.store.port with busy := none } } }).arbitratePort

/-- TRANSFER_END (R6). -/
def execTransferEnd (s : State) : Host.Outcome State Fault Refusal :=
  match s.store.port.busy with
  | none => taken id s
  | some t =>
    if !s.resetAsserted && !s.transferInside t then .fault .outsideRasterStore else taken (State.transferEnds t) s

/-! ### The Page Link (chapter 10) -/

/-- DOWNSTREAM_FRAME (R188). -/
def execDownstreamFrame (bytes : List Byte) (s : State) : Host.Outcome State Fault Refusal :=
  taken (State.frameArrives bytes) s

/-- The frame being sent ends (R197). -/
def State.laneFreed (s : State) : State := { s with link := { s.link with lane := none } }

/-- UPSTREAM_FRAME_END (R197). -/
def execUpstreamFrameEnd (s : State) : Host.Outcome State Fault Refusal := taken State.laneFreed s

/-! ### Pages, builds and dispatch (chapters 1 to 3) -/

/-- COMPLETION_NOTICE (R43). -/
def execCompletionNotice (s : State) : Host.Outcome State Fault Refusal := taken State.workNotice s

/-- RECEIVE_TIMEOUT (R15). -/
def execReceiveTimeout (stream : Nat) (s : State) : Host.Outcome State Fault Refusal :=
  taken (State.receiveExpires stream) s

/-- DISPATCH (R66 to R68). -/
def execDispatch (s : State) : Host.Outcome State Fault Refusal := taken State.dispatchPass s

/-! ### The imagers (chapter 6) -/

/-- CLAMP_ARRIVAL (R114). -/
def execClampArrival (i : Imager) (s : State) : Host.Outcome State Fault Refusal := taken (State.arrival (clampInput i)) s

/-- LOAD_TIMEOUT (R115). -/
def execLoadTimeout (i : Imager) (s : State) : Host.Outcome State Fault Refusal := taken (State.loadExpires i) s

/-- SPINUP_TIMEOUT (R117). -/
def execSpinupTimeout (i : Imager) (s : State) : Host.Outcome State Fault Refusal := taken (State.spinupExpires i) s

/-- INDEX (R107). -/
def execIndex (i : Imager) (s : State) : Host.Outcome State Fault Refusal := taken (State.indexPulse i) s

/-- EMISSION_END (R120). -/
def execEmissionEnd (i : Imager) (s : State) : Host.Outcome State Fault Refusal := taken (State.emissionEnds i) s

/-- CARRIAGE_PULSE_END (R102). -/
def execCarriagePulseEnd (i : Imager) (s : State) : Host.Outcome State Fault Refusal := taken (State.pulseEnds i) s

/-- PERIOD_SATURATION (R118). -/
def execPeriodSaturation (i : Imager) (s : State) : Host.Outcome State Fault Refusal := taken (State.stalls i) s

/-- A sample of imager `i`'s phase lines (R106). -/
def State.encoder (i : Imager) (phase : Phase) (s : State) : State :=
  let c := s.channel i
  s.setChannel i { c with drum := c.drum.sample c.settings.mult phase }

/-- ENCODER_TRANSITION (R106). -/
def execEncoderTransition (i : Imager) (phase : Phase) (s : State) : Host.Outcome State Fault Refusal :=
  taken (State.encoder i phase) s

/-! ### The line (chapter 7) -/

/-- MERGE_GRANT (R136 to R138). -/
def execMergeGrant (s : State) : Host.Outcome State Fault Refusal := taken State.mergeGrants s

/-- SPACING_EXPIRY (R136). -/
def execSpacingExpiry (s : State) : Host.Outcome State Fault Refusal := taken State.spacingExpires s

/-- LINE_SENSOR_ARRIVAL (R141). -/
def execLineSensorArrival (sensor : LineSensor) (s : State) : Host.Outcome State Fault Refusal :=
  taken (State.arrival (sensorInput sensor)) s

/-- WINDOW_EXPIRY (R146). -/
def execWindowExpiry (sensor : LineSensor) (s : State) : Host.Outcome State Fault Refusal :=
  taken (State.windowExpires sensor) s

/-- GATE_OPEN (R142). -/
def execGateOpen (st : Station) (s : State) : Host.Outcome State Fault Refusal := taken (State.gateOpens st) s

/-- ITEM_RELEASE (R144). -/
def execItemRelease (st : Station) (s : State) : Host.Outcome State Fault Refusal := taken (State.itemReleases st) s

/-! ### The stations (chapters 8 and 9) -/

/-- PUNCH_ENTRY (R161). -/
def execPunchEntry (s : State) : Host.Outcome State Fault Refusal := taken State.punchEntry s

/-- DIE_HOME_ARRIVAL (R162); there are dies 0 to 11. -/
def execDieHomeArrival (die : Nat) (s : State) : Host.Outcome State Fault Refusal :=
  taken (fun s => if die ≤ 11 then s.arrival (dieInput die) else s) s

/-- DIE_TIMEOUT (R164). -/
def execDieTimeout (s : State) : Host.Outcome State Fault Refusal := taken State.dieExpires s

/-- BEND_ENTRY (R167). -/
def execBendEntry (s : State) : Host.Outcome State Fault Refusal := taken State.bendEntry s

/-- BEND_DONE_ARRIVAL (R168). -/
def execBendDoneArrival (s : State) : Host.Outcome State Fault Refusal := taken (State.arrival bendInput) s

/-- BEND_TIMEOUT (R169). -/
def execBendTimeout (s : State) : Host.Outcome State Fault Refusal := taken State.bendExpires s

/-- SORT_ENTRY (R177). -/
def execSortEntry (s : State) : Host.Outcome State Fault Refusal := taken State.sortEntry s

/-- CART_ATTACH (R175); there are carts 0 to 5. -/
def execCartAttach (cart : Nat) (s : State) : Host.Outcome State Fault Refusal :=
  taken (fun s => if cart ≤ 5 then s.arrival (cartInput cart) else s) s

/-- CART_DETACH (R175). -/
def execCartDetach (cart : Nat) (s : State) : Host.Outcome State Fault Refusal :=
  taken (fun s => if cart ≤ 5 then s.departure (cartInput cart) else s) s

/-- EXIT_EMPTIED (R176). -/
def execExitEmptied (e : ExitName) (s : State) : Host.Outcome State Fault Refusal :=
  taken (State.arrival (emptiedInput e)) s

/-! ### Time, sensors and reset (chapter 5) -/

/-- LINE_TIMEBASE_TICK (R94). -/
def execLineTimebaseTick (s : State) : Host.Outcome State Fault Refusal := taken State.toNextTick s

/-- RAW_LEVEL_CHANGE (R97). -/
def execRawLevelChange (n : Nat) (level : Bool) (s : State) : Host.Outcome State Fault Refusal :=
  taken (State.rawLevel n level) s

/-- INACTIVE_EDGE_ACCEPTANCE of an input that is no CART input (R97). -/
def execInactiveEdgeAcceptance (n : Nat) (s : State) : Host.Outcome State Fault Refusal :=
  taken (fun s => if isCartInput n then s else s.departure n) s

/-- RESET_ASSERTED (R104). -/
def execResetAsserted (s : State) : Host.Outcome State Fault Refusal := .next s.assertReset

/-- POWER_ON_RESET: the release of reset (R104, R99). -/
def execPowerOnReset (levels : BitVec 32) (phaseA phaseB : Phase) (s : State) : Host.Outcome State Fault Refusal :=
  .next (s.powerOn levels phaseA phaseB)

end Sys2Proof.Machine
end

