-- ==== Sys2Proof/Machine/Dispatch.lean ====
section
/-! DEFINITION. The meaning of each command: one arm for each constructor of `Instr`. -/

namespace Sys2Proof.Machine

def exec (i : Instr) (s : State) : Host.Outcome State Fault Refusal :=
  match i with
  | .powerOnReset levels phaseA phaseB => Sys2Proof.Machine.execPowerOnReset levels phaseA phaseB s
  | .downstreamFrame bytes => Sys2Proof.Machine.execDownstreamFrame bytes s
  | .transferEnd => Sys2Proof.Machine.execTransferEnd s
  | .completionNotice => Sys2Proof.Machine.execCompletionNotice s
  | .receiveTimeout stream => Sys2Proof.Machine.execReceiveTimeout stream s
  | .pageOpen tag stream key version width height retain => Sys2Proof.Machine.execPageOpen tag stream key version width height retain s
  | .pageAbandon tag stream => Sys2Proof.Machine.execPageAbandon tag stream s
  | .pageRelease tag key version => Sys2Proof.Machine.execPageRelease tag key version s
  | .mapLoad tag id size cls affinity positions => Sys2Proof.Machine.execMapLoad tag id size cls affinity positions s
  | .mapDelete tag id => Sys2Proof.Machine.execMapDelete tag id s
  | .sizeLoad tag code l x => Sys2Proof.Machine.execSizeLoad tag code l x s
  | .plateHold tag id => Sys2Proof.Machine.execPlateHold tag id s
  | .plateRelease tag id => Sys2Proof.Machine.execPlateRelease tag id s
  | .lineHold tag line => Sys2Proof.Machine.execLineHold tag line s
  | .lineRelease tag line => Sys2Proof.Machine.execLineRelease tag line s
  | .plateCancel tag id => Sys2Proof.Machine.execPlateCancel tag id s
  | .replate tag form id => Sys2Proof.Machine.execReplate tag form id s
  | .pressSet tag press pattern profile fans => Sys2Proof.Machine.execPressSet tag press pattern profile fans s
  | .lineAssign tag line press => Sys2Proof.Machine.execLineAssign tag line press s
  | .patternLoad tag pattern dies => Sys2Proof.Machine.execPatternLoad tag pattern dies s
  | .profileLoad tag profile lead tail => Sys2Proof.Machine.execProfileLoad tag profile lead tail s
  | .cartLayout tag cart units acrosses => Sys2Proof.Machine.execCartLayout tag cart units acrosses s
  | .windowLoad tag entry min max => Sys2Proof.Machine.execWindowLoad tag entry min max s
  | .timingLoad tag entry value => Sys2Proof.Machine.execTimingLoad tag entry value s
  | .sensorSet tag input edge filter => Sys2Proof.Machine.execSensorSet tag input edge filter s
  | .imagerSet tag imager args => Sys2Proof.Machine.execImagerSet tag imager args s
  | .stockSet tag imager size count => Sys2Proof.Machine.execStockSet tag imager size count s
  | .imagerClear tag imager => Sys2Proof.Machine.execImagerClear tag imager s
  | .lineStart tag => Sys2Proof.Machine.execLineStart tag s
  | .lineStop tag => Sys2Proof.Machine.execLineStop tag s
  | .lineResume tag disposition => Sys2Proof.Machine.execLineResume tag disposition s
  | .reportMask tag level => Sys2Proof.Machine.execReportMask tag level s
  | .queryPage tag key version => Sys2Proof.Machine.execQueryPage tag key version s
  | .queryPlate tag id => Sys2Proof.Machine.execQueryPlate tag id s
  | .queryImager tag imager => Sys2Proof.Machine.execQueryImager tag imager s
  | .queryLine tag => Sys2Proof.Machine.execQueryLine tag s
  | .queryStore tag => Sys2Proof.Machine.execQueryStore tag s
  | .restart tag => Sys2Proof.Machine.execRestart tag s
  | .dispatch => Sys2Proof.Machine.execDispatch s
  | .clampArrival j => Sys2Proof.Machine.execClampArrival j s
  | .loadTimeout j => Sys2Proof.Machine.execLoadTimeout j s
  | .spinupTimeout j => Sys2Proof.Machine.execSpinupTimeout j s
  | .index j => Sys2Proof.Machine.execIndex j s
  | .emissionEnd j => Sys2Proof.Machine.execEmissionEnd j s
  | .carriagePulseEnd j => Sys2Proof.Machine.execCarriagePulseEnd j s
  | .periodSaturation j => Sys2Proof.Machine.execPeriodSaturation j s
  | .mergeGrant => Sys2Proof.Machine.execMergeGrant s
  | .spacingExpiry => Sys2Proof.Machine.execSpacingExpiry s
  | .lineSensorArrival sensor => Sys2Proof.Machine.execLineSensorArrival sensor s
  | .windowExpiry sensor => Sys2Proof.Machine.execWindowExpiry sensor s
  | .gateOpen station => Sys2Proof.Machine.execGateOpen station s
  | .itemRelease station => Sys2Proof.Machine.execItemRelease station s
  | .punchEntry => Sys2Proof.Machine.execPunchEntry s
  | .dieHomeArrival die => Sys2Proof.Machine.execDieHomeArrival die s
  | .dieTimeout => Sys2Proof.Machine.execDieTimeout s
  | .bendEntry => Sys2Proof.Machine.execBendEntry s
  | .bendDoneArrival => Sys2Proof.Machine.execBendDoneArrival s
  | .bendTimeout => Sys2Proof.Machine.execBendTimeout s
  | .sortEntry => Sys2Proof.Machine.execSortEntry s
  | .cartAttach cart => Sys2Proof.Machine.execCartAttach cart s
  | .cartDetach cart => Sys2Proof.Machine.execCartDetach cart s
  | .exitEmptied exit => Sys2Proof.Machine.execExitEmptied exit s
  | .upstreamFrameEnd => Sys2Proof.Machine.execUpstreamFrameEnd s
  | .lineTimebaseTick => Sys2Proof.Machine.execLineTimebaseTick s
  | .encoderTransition j phase => Sys2Proof.Machine.execEncoderTransition j phase s
  | .rawLevelChange input level => Sys2Proof.Machine.execRawLevelChange input level s
  | .inactiveEdgeAcceptance input => Sys2Proof.Machine.execInactiveEdgeAcceptance input s
  | .resetAsserted => Sys2Proof.Machine.execResetAsserted s

end Sys2Proof.Machine
end

