-- ==== Sys2Proof/WellFormed.lean ====
section
/-! DEFINITION. Well-formed commands: every field fits the width that Tables 10.1 to 10.5 and Table 10.7 give it,
and an event names an object that exists. Ranges that the spec refuses with a completion code (RANGE) are not
checked here: a request with such a field is a well-formed command, and its owner refuses it. -/

namespace Sys2Proof

/-- A value of a one-byte field. -/
def isByte (n : Nat) : Bool := decide (n < 256)
/-- A value of a two-byte field. -/
def isWord (n : Nat) : Bool := decide (n < 65536)
/-- A value of a four-byte field. -/
def isLong (n : Nat) : Bool := decide (n < 4294967296)
/-- A value of a two's complement two-byte field (Table 10.5, fan-out). -/
def isFan (f : Int) : Bool := decide (-32768 ≤ f ∧ f < 32768)

def PageKey.bytesOk (k : PageKey) : Bool :=
  isByte k.edition && isByte k.zone && isByte k.sect && isByte k.page && isByte k.sep

def PlateId.bytesOk (p : PlateId) : Bool :=
  isByte p.line && isByte p.unit && isByte p.face && isByte p.across

def PosArgs.bytesOk (p : PosArgs) : Bool :=
  p.key.bytesOk && isByte p.rotation && isWord p.x0 && isWord p.y0

def SettingArgs.bytesOk (a : SettingArgs) : Bool :=
  isWord a.d && isWord a.pRev && isLong a.c && isByte a.mult && isByte a.tol && isWord a.g && isByte a.skipLimit

/-- Every field of the request fits its width (Tables 10.2, 10.5 and 10.7). -/
def Request.wf : Request → Bool
  | .pageOpen st k v w h r => isByte st && k.bytesOk && isByte v && isByte w && isWord h && isByte r
  | .pageAbandon st => isByte st
  | .pageRelease k v => k.bytesOk && isByte v
  | .mapLoad p z c a ps => p.bytesOk && isByte z && isByte c && isByte a && isByte ps.length && ps.all PosArgs.bytesOk
  | .mapDelete p => p.bytesOk
  | .sizeLoad c l x => isByte c && isWord l && isWord x
  | .plateHold p => p.bytesOk
  | .plateRelease p => p.bytesOk
  | .lineHold l => isByte l
  | .lineRelease l => isByte l
  | .plateCancel p => p.bytesOk
  | .replate f p => isByte f && p.bytesOk
  | .pressSet p a b fs => isByte p && isByte a && isByte b && decide (fs.length = 4) && fs.all isFan
  | .lineAssign l p => isByte l && isByte p
  | .patternLoad p ds => isByte p && isByte ds.length && ds.all isByte
  | .profileLoad p l t => isByte p && isByte l && isByte t
  | .cartLayout c u a => isByte c && isByte u && isByte a
  | .windowLoad e lo hi => isByte e && isWord lo && isWord hi
  | .timingLoad e v => isByte e && isWord v
  | .sensorSet n e f => isByte n && isByte e && isByte f
  | .imagerSet i a => isByte i && a.bytesOk
  | .stockSet i z c => isByte i && isByte z && isByte c
  | .imagerClear i => isByte i
  | .lineStart => true
  | .lineStop => true
  | .lineResume d => isByte d
  | .reportMask m => isByte m
  | .queryPage k v => k.bytesOk && isByte v
  | .queryPlate p => p.bytesOk
  | .queryImager i => isByte i
  | .queryLine => true
  | .queryStore => true
  | .restart => true

/-- The command a tagged request stands for: the row of the table that applies it. -/
def TaggedRequest.command (t : TaggedRequest) : Instr :=
  match t.request with
  | .pageOpen st k v w h r => .pageOpen t.tag st k v w h r
  | .pageAbandon st => .pageAbandon t.tag st
  | .pageRelease k v => .pageRelease t.tag k v
  | .mapLoad p z c a ps => .mapLoad t.tag p z c a ps
  | .mapDelete p => .mapDelete t.tag p
  | .sizeLoad c l x => .sizeLoad t.tag c l x
  | .plateHold p => .plateHold t.tag p
  | .plateRelease p => .plateRelease t.tag p
  | .lineHold l => .lineHold t.tag l
  | .lineRelease l => .lineRelease t.tag l
  | .plateCancel p => .plateCancel t.tag p
  | .replate f p => .replate t.tag f p
  | .pressSet p a b fs => .pressSet t.tag p a b fs
  | .lineAssign l p => .lineAssign t.tag l p
  | .patternLoad p ds => .patternLoad t.tag p ds
  | .profileLoad p l e => .profileLoad t.tag p l e
  | .cartLayout c u a => .cartLayout t.tag c u a
  | .windowLoad e lo hi => .windowLoad t.tag e lo hi
  | .timingLoad e v => .timingLoad t.tag e v
  | .sensorSet n e f => .sensorSet t.tag n e f
  | .imagerSet i a => .imagerSet t.tag i a
  | .stockSet i z c => .stockSet t.tag i z c
  | .imagerClear i => .imagerClear t.tag i
  | .lineStart => .lineStart t.tag
  | .lineStop => .lineStop t.tag
  | .lineResume d => .lineResume t.tag d
  | .reportMask m => .reportMask t.tag m
  | .queryPage k v => .queryPage t.tag k v
  | .queryPlate p => .queryPlate t.tag p
  | .queryImager i => .queryImager t.tag i
  | .queryLine => .queryLine t.tag
  | .queryStore => .queryStore t.tag
  | .restart => .restart t.tag

/-- The request that a command applies, with its tag; none for a command that is no request. -/
def Instr.request? : Instr → Option TaggedRequest
  | .pageOpen t st k v w h r => some ⟨t, .pageOpen st k v w h r⟩
  | .pageAbandon t st => some ⟨t, .pageAbandon st⟩
  | .pageRelease t k v => some ⟨t, .pageRelease k v⟩
  | .mapLoad t p z c a ps => some ⟨t, .mapLoad p z c a ps⟩
  | .mapDelete t p => some ⟨t, .mapDelete p⟩
  | .sizeLoad t c l x => some ⟨t, .sizeLoad c l x⟩
  | .plateHold t p => some ⟨t, .plateHold p⟩
  | .plateRelease t p => some ⟨t, .plateRelease p⟩
  | .lineHold t l => some ⟨t, .lineHold l⟩
  | .lineRelease t l => some ⟨t, .lineRelease l⟩
  | .plateCancel t p => some ⟨t, .plateCancel p⟩
  | .replate t f p => some ⟨t, .replate f p⟩
  | .pressSet t p a b fs => some ⟨t, .pressSet p a b fs⟩
  | .lineAssign t l p => some ⟨t, .lineAssign l p⟩
  | .patternLoad t p ds => some ⟨t, .patternLoad p ds⟩
  | .profileLoad t p l e => some ⟨t, .profileLoad p l e⟩
  | .cartLayout t c u a => some ⟨t, .cartLayout c u a⟩
  | .windowLoad t e lo hi => some ⟨t, .windowLoad e lo hi⟩
  | .timingLoad t e v => some ⟨t, .timingLoad e v⟩
  | .sensorSet t n e f => some ⟨t, .sensorSet n e f⟩
  | .imagerSet t i a => some ⟨t, .imagerSet i a⟩
  | .stockSet t i z c => some ⟨t, .stockSet i z c⟩
  | .imagerClear t i => some ⟨t, .imagerClear i⟩
  | .lineStart t => some ⟨t, .lineStart⟩
  | .lineStop t => some ⟨t, .lineStop⟩
  | .lineResume t d => some ⟨t, .lineResume d⟩
  | .reportMask t m => some ⟨t, .reportMask m⟩
  | .queryPage t k v => some ⟨t, .queryPage k v⟩
  | .queryPlate t p => some ⟨t, .queryPlate p⟩
  | .queryImager t i => some ⟨t, .queryImager i⟩
  | .queryLine t => some ⟨t, .queryLine⟩
  | .queryStore t => some ⟨t, .queryStore⟩
  | .restart t => some ⟨t, .restart⟩
  | .powerOnReset _ _ _ => none
  | .downstreamFrame _ => none
  | .transferEnd => none
  | .completionNotice => none
  | .receiveTimeout _ => none
  | .dispatch => none
  | .clampArrival _ => none
  | .loadTimeout _ => none
  | .spinupTimeout _ => none
  | .index _ => none
  | .emissionEnd _ => none
  | .carriagePulseEnd _ => none
  | .periodSaturation _ => none
  | .mergeGrant => none
  | .spacingExpiry => none
  | .lineSensorArrival _ => none
  | .windowExpiry _ => none
  | .gateOpen _ => none
  | .itemRelease _ => none
  | .punchEntry => none
  | .dieHomeArrival _ => none
  | .dieTimeout => none
  | .bendEntry => none
  | .bendDoneArrival => none
  | .bendTimeout => none
  | .sortEntry => none
  | .cartAttach _ => none
  | .cartDetach _ => none
  | .exitEmptied _ => none
  | .upstreamFrameEnd => none
  | .lineTimebaseTick => none
  | .encoderTransition _ _ => none
  | .rawLevelChange _ _ => none
  | .inactiveEdgeAcceptance _ => none
  | .resetAsserted => none

/-- An event names an object that exists; a request's fields fit their widths. -/
def Instr.wf (i : Instr) : Bool :=
  match i.request? with
  | some t => isByte t.tag && t.request.wf
  | none =>
    match i with
    | .receiveTimeout st => decide (st < 8)
    | .dieHomeArrival n => decide (n < 12)
    | .cartAttach n => decide (n < 6)
    | .cartDetach n => decide (n < 6)
    | .rawLevelChange n _ => decide (n < 32)
    | .inactiveEdgeAcceptance n => decide (n < 32) && !decide (24 ≤ n ∧ n < 30)
    | _ => true

end Sys2Proof
end

