-- ==== Sys2Proof/Machine/Idle.lean ====
section
/-! DEFINITION. What the block does with no command waiting (log 1): the first of its own events that is due, in the
order of the list below; with none due, one reference tick passes. -/

namespace Sys2Proof.Machine

/-- The request at the head of the queue can be handed on (R191). -/
def State.dueRequest (s : State) : List Instr :=
  match s.link.requests with
  | [] => []
  | t :: _ => if s.link.replies.length < Config.maxReplies then [t.command] else []

/-- The event that the acceptance of input `n`'s pending change makes (R98, R99). -/
def inputEvent (n : Nat) (active : Bool) : Instr :=
  if isCartInput n then (if active then .cartAttach (n - 24) else .cartDetach (n - 24))
  else if !active then .inactiveEdgeAcceptance n
  else
    match lineSensorAt n with
    | some sensor => .lineSensorArrival sensor
    | none =>
      if n = 0 then .clampArrival .a
      else if n = 1 then .clampArrival .b
      else if n < bendInput then .dieHomeArrival (n - 11)
      else if n = bendInput then .bendDoneArrival
      else if n = 30 then .exitEmptied .reject
      else .exitEmptied .remake

/-- The acceptances that are due (R97). -/
def State.dueInputs (s : State) : List Instr :=
  ((List.range 32).filter fun n => (s.input n).mature s.clock.ref).map fun n => inputEvent n (s.input n).activeEdge

/-- The expiries that are due (R95). -/
def State.dueExpiries (s : State) : List Instr :=
  (((List.range 8).filter fun t => decide ((s.context t).state = .receiving) && dueAt s.now (s.context t).deadline).map
      Instr.receiveTimeout) ++
    ([Imager.a, .b].filter fun i =>
      decide ((s.channel i).seq.state = .loading) && dueAt s.now (s.channel i).seq.loadDeadline).map Instr.loadTimeout ++
    ([Imager.a, .b].filter fun i =>
      decide ((s.channel i).seq.state = .spinup) && dueAt s.now (s.channel i).seq.spinDeadline).map Instr.spinupTimeout ++
    (if !s.line.merge.spacingOver && dueAt s.now s.line.merge.deadline then [Instr.spacingExpiry] else []) ++
    ([LineSensor.exitA, .exitB, .tg, .ps, .lg, .bs, .og, .ss, .sd].filter fun x =>
      decide (s.line.state = .running) && (s.expiredAt x).isSome).map Instr.windowExpiry ++
    (if s.punch.state = .stroking ∧ dueAt s.now s.punch.deadline then [Instr.dieTimeout] else []) ++
    (if s.bend.state = .bending ∧ dueAt s.now s.bend.deadline then [Instr.bendTimeout] else [])

/-- The events of a channel that its period counter and its pulse make due (R102, R109, R118). -/
def State.dueDrum (s : State) (i : Imager) : List Instr :=
  let c := s.channel i
  (if c.out.step ∧ c.out.stepStart + Config.stepPulse ≤ s.clock.ref then [Instr.carriagePulseEnd i] else []) ++
    (if c.seq.state = .exposing ∧ c.seq.emissionPending ∧ c.emissionOver then [Instr.emissionEnd i] else []) ++
    (if c.seq.state = .exposing ∧ c.drum.period = Config.saturated then [Instr.periodSaturation i] else [])

/-- The steps of the line that are due (R136, R142, R144, R161, R167, R177). -/
def State.dueSteps (s : State) : List Instr :=
  (([Station.punch, .bend, .sort].filter fun st => (s.line.gateReady st).isSome).map Instr.gateOpen) ++
    (([Station.punch, .bend].filter fun st => (s.line.releaseReady st).isSome).map Instr.itemRelease) ++
    (if s.line.grantReady then [Instr.mergeGrant] else []) ++
    (if s.line.state = .running ∧ s.punch.state = .idle ∧ (s.line.noticed .punch).isSome then [Instr.punchEntry]
     else []) ++
    (if s.line.state = .running ∧ s.bend.state = .idle ∧ (s.line.noticed .bend).isSome then [Instr.bendEntry]
     else []) ++
    (if s.line.state = .running ∧ s.sorter.state = .idle ∧ (s.line.noticed .sort).isSome then [Instr.sortEntry] else [])

/-- The events of the block itself that are due, in the order in which it takes them. -/
def State.due (s : State) : List Instr :=
  (if s.dispatchDue .a || s.dispatchDue .b then [Instr.dispatch] else []) ++
    (if s.store.notices.isEmpty then [] else [Instr.completionNotice]) ++ s.dueSteps ++ s.dueDrum .a ++
    s.dueDrum .b ++ s.dueInputs ++ s.dueExpiries ++ s.dueRequest

end Sys2Proof.Machine
end

