-- ==== Sys2Proof/Machine/Step.lean ====
section
/-! DEFINITION. One step of the block, and the placing of a command at the front of its queue. -/

namespace Sys2Proof.Machine

/-- With no command waiting, the block takes the first of its own events that is due, and otherwise lets one reference
tick pass; while reset is asserted nothing happens. DESIGN CHOICE (log 1). -/
def idle (s : State) : Host.Outcome State Fault Refusal :=
  if s.resetAsserted then .next s
  else
    match s.due with
    | [] => .next s.referenceTick
    | c :: _ => exec c s

/-- One step: the command at the front of the queue is taken, with the queue's rest; on an empty queue the block acts by
itself. -/
def step (s : State) : Host.Outcome State Fault Refusal :=
  match s.pending with
  | [] => idle s
  | c :: cs => exec c { s with pending := cs }

/-- `s` with the command that the word spells at the front of its queue; the table gives no row any bits, so no word
spells a command (log 12). -/
def State.withFetchWord (s : State) (nbits w : Nat) : State :=
  match Sys2Proof.decodeTableWord nbits w with
  | none => s
  | some c => { s with pending := c :: s.pending }

end Sys2Proof.Machine
end

