-- ==== Sys2Proof/Safety.lean ====
section
/-! DEFINITION. The terms of the claims: when a request is handed on, the state in which it has been answered, the bounds
and forms that every step keeps, a safe step. -/

namespace Sys2Proof.Machine

/-- The request `t` is the next to be applied, and is applied: reset is released, the reply list has room, and `t` is at
the head of the request queue or arrives on an empty queue (R191, log 3). -/
abbrev Ready (s : State) (t : TaggedRequest) : Prop :=
  s.resetAsserted = false ∧ s.link.replies.length < 16 ∧ (s.link.requests = [] ∨ s.link.requests.head? = some t)

/-- The effect state `v` after the request `t` has been answered: the dispatch pass that the request's work calls for has
been made (R66, log 5), the request has left the queue, its reply stands last in the reply list, and a frame begins on an
idle lane (R191, R197). -/
def State.answering (v : State) (t : TaggedRequest) (c : Code) (result : List Byte) : State :=
  let w := v.makePass
  State.pump { w with link := { w.link with
    requests := w.link.requests.tail, replies := w.link.replies ++ [⟨t.tag, kindOf t.request, c, result⟩] } }

/-- The raster memory is in its canonical form. -/
abbrev MemoryCanonical (s : State) : Prop := Memory.wf s.store.memory

/-- The bounds of the queues and numbers of chapter 10: at most 8 requests (R190), 16 replies (R191) and 64 event reports
(R195), a mask level of 0..4 (R193), a sequence number of 0..255 (R197), a time below 2 to the power 32 (R94). -/
abbrev LinkBounded (s : State) : Prop :=
  s.link.requests.length ≤ 8 ∧ s.link.replies.length ≤ 16 ∧ s.reports.events.length ≤ 64 ∧ s.reports.mask ≤ 4 ∧
    s.reports.seq < 256 ∧ s.clock.time < 4294967296

/-- The directory holds at most one record for a key and version (R1). -/
abbrev DirectoryDistinct (s : State) : Prop :=
  s.store.directory.Pairwise fun q r => ¬ (q.key = r.key ∧ q.version = r.version)

/-- The Page Directory and the cell pool agree (R1, R3): at most 256 records, one for a key and version, and the free cell
count with the heights of all records is the 32768 cells of the store. -/
abbrev CellPoolBalanced (s : State) : Prop :=
  DirectoryDistinct s ∧ s.store.directory.length ≤ 256 ∧
    s.store.freeCells + (s.store.directory.map fun r => r.height).sum = 32768

/-- The context feeds the RECEIVING record: it names it, counts its bands, and is RECEIVING while bands are missing and
COMPLETING when none is (R8, R13). -/
abbrev Feeds (c : Context) (r : PageRecord) : Prop :=
  c.record = some (r.key, r.version) ∧ c.nextBand = r.bands ∧
    ((c.state = .receiving ∧ r.bands < r.height) ∨ (c.state = .completing ∧ r.bands = r.height))

/-- Every cell of the store is accounted for (R3, R5): the idle cell list and the cell chains hold each of the 32768 cells
once; a chain is as long as the bands received, which is the height in a record that is not RECEIVING; each RECEIVING record
is fed by the context of its stream tag, and each context that is not IDLE feeds one. -/
abbrev CellsAccounted (s : State) : Prop :=
  (s.store.idleCells ++ s.store.directory.flatMap fun r => r.chain).Perm (List.range 32768) ∧
  s.rx.contexts.length = 8 ∧
  (∀ r ∈ s.store.directory, r.chain.length = r.bands ∧ (r.state ≠ .receiving → r.bands = r.height) ∧
    (r.state = .receiving → ∃ t < 8, r.stream = some t ∧ Feeds (s.rx.contexts.getD t ⟨.idle, none, 0, none⟩) r)) ∧
  ∀ t < 8, (s.rx.contexts.getD t ⟨.idle, none, 0, none⟩).state ≠ .idle →
    ∃ r ∈ s.store.directory, r.state = .receiving ∧ r.stream = some t ∧
      (s.rx.contexts.getD t ⟨.idle, none, 0, none⟩).record = some (r.key, r.version)

/-- The imager's sequencer holds no build in IDLE, UNLOADING and FAULT, and otherwise none but a dispatched build that names
the imager (Table 6.5, R35). -/
abbrev HoldsDispatched (s : State) (i : Imager) : Prop :=
  let q := (s.chan.get i).seq
  (q.state = .idle ∨ q.state = .unloading ∨ q.state = .fault → q.build = none) ∧
    ∀ n ∈ q.build, ∃ b ∈ s.plates.builds, b.bid = n ∧ b.imager = some i ∧ b.state ≠ .open_ ∧ b.state ≠ .ready

/-- The plate tables are sound: the builds have different ids of 0..31 (R34); the exposure queue holds each READY build once,
and no other, in ascending class (R57); the pending list holds no plate id twice, and any only while all 32 records are in
use (R34, R42); no plate id has two current plates (R36). The last two clauses are what an induction needs: a build that
waits names no imager, and an imager holds none but a dispatched build. -/
abbrev BuildsSound (s : State) : Prop :=
  (s.plates.builds.map fun b => b.bid).Nodup ∧ (∀ b ∈ s.plates.builds, b.bid < 32) ∧
  s.plates.queue.Nodup ∧ (∀ n ∈ s.plates.queue, ∃ b ∈ s.plates.builds, b.bid = n ∧ b.state = .ready) ∧
  (∀ b ∈ s.plates.builds, b.state = .ready → b.bid ∈ s.plates.queue) ∧
  (s.plates.queue.Pairwise fun m n => s.classOf m ≤ s.classOf n) ∧
  s.plates.pendingList.Nodup ∧ (s.plates.pendingList ≠ [] → s.plates.builds.length = 32) ∧
  (((s.plates.builds.filter fun b => decide (b.cause = .none_)).map fun b => b.plate) ++
    ((s.line.items.filter fun it => decide (it.cause = .none_)).map fun it => it.plate)).Nodup ∧
  (∀ b ∈ s.plates.builds, b.state = .open_ ∨ b.state = .ready → b.imager = none) ∧
  HoldsDispatched s .a ∧ HoldsDispatched s .b

/-- No zone of the line holds more than its capacity (R133, Table 7.2). -/
abbrev ZonesBounded (s : State) : Prop :=
  let holds : Zone → Nat := fun z => (s.line.items.filter fun it => decide (it.zone = z)).length
  holds .transfer ≤ 4 ∧ holds .punch ≤ 1 ∧ holds .link ≤ 2 ∧ holds .bend ≤ 1 ∧ holds .outfeed ≤ 2 ∧ holds .sort ≤ 1

/-- The time `now` has reached the deadline `d` (R95; log 20): the time since `d`, modulo 2 to the power 32, is below half of
the count's range. -/
abbrev reached (now d : Nat) : Prop := (now + 4294967296 - d) % 4294967296 < 2147483648

/-- No count passes its exit's capacity, and a deposit on its way to an exit finds that exit not full (R176, R177). -/
abbrev ExitsBounded (s : State) : Prop :=
  s.sorter.rejects ≤ 40 ∧ s.sorter.remakes ≤ 12 ∧
    (s.sorter.state = .depositing →
      (s.sorter.destination = some .reject → s.sorter.rejects < 40) ∧
        (s.sorter.destination = some .remake → s.sorter.remakes < 12))

/-- What a drop of the RECEIVING record `r` leaves (R18, Table 1.4): a write of one of its bands is abandoned, its cells and
its whole reservation are back in the pool, the record is gone, its context is IDLE with next band 0 (log
30), and PAGE DROPPED is offered. -/
def State.dropped (s : State) (r : PageRecord) (cause : DropCause) (offending : Option Nat) (overtaking : Nat) : State :=
  let writing : Bool := match s.rx.writer with
    | some j => decide (j.key = r.key ∧ j.version = r.version)
    | none => false
  { s with
    rx := {
      contexts := match r.stream with
        | some t => s.rx.contexts.set t ⟨.idle, none, 0, none⟩
        | none => s.rx.contexts
      writer := if writing then none else s.rx.writer },
    store := { s.store with
      directory := s.store.directory.filter fun q => !decide (q.key = r.key ∧ q.version = r.version),
      idleCells := s.store.idleCells ++ r.chain,
      freeCells := s.store.freeCells + r.height,
      port := if writing then s.store.port.withdraw .receive else s.store.port },
    reports := s.reports.offer (.pageDropped
      { key := r.key, version := r.version, stream := r.stream.getD 0, cause := cause, bands := r.bands,
        height := r.height, offending := offending, overtaking := overtaking }) s.clock.time }

/-- Input `n` holds the record `x`, whose pending change `c` is accepted at or before this sample (R97, R100): its filter
time has passed since the change began, and so has the first sample at which it may be judged. -/
abbrev accepting (s : State) (n : Nat) (x : Input) (c : PendingChange) : Prop :=
  s.inputs[n]? = some x ∧ x.change = some c ∧ c.start + x.filter * 48000 ≤ s.clock.ref ∧ c.notBefore ≤ s.clock.ref

/-- The change of input `n` has been accepted (R97). -/
def State.accepted (s : State) (n : Nat) (x : Input) : State :=
  { s with inputs := s.inputs.set n { x with filtered := x.raw, change := none } }

/-- The timestamp of the arrival: the Line Timebase time at the sample of acceptance (R98, log 19). -/
def stampOf (x : Input) (c : PendingChange) : Nat :=
  max (c.start + x.filter * 48000) c.notBefore / 48000 % 4294967296

/-- A composer after its job has ended (R90). -/
def Composer.ended (c : Composer) : Composer :=
  { job := none, nextFill := 0, nextEmit := 0, fill := none, buf0 := { c.buf0 with state := .free },
    buf1 := { c.buf1 with state := .free } }

/-- A safe step answers a next state. -/
def SafeStep (s : State) : Prop := ∃ t, step s = .next t

end Sys2Proof.Machine
end

