-- ==== Sys2Proof/Certificates/Slice0/Obligations.lean ====
section
/-! DEFINITION. The statements for the provers. Each docstring names the rules of spec/ that it states, and the log entry
where it states a choice of the model. `State.finish` is what follows an event's own effects, the dispatch pass that the
event calls for (R66) and the choice of an upstream frame (R197); DispatchPass and UpstreamFrameEnds state it, and
`State.answering` (Safety) makes the same pass before a reply. -/

open Sys2Proof Sys2Proof.Machine

/-! ### The machine as a whole -/

/-- With commands waiting, a step runs the command at the front on the state without it. -/
def Obligations.StepTakesFrontCommand : Prop :=
  ∀ (c : Instr) (cs : List Instr) (s : State), s.pending = c :: cs → step s = exec c { s with pending := cs }

/-- The model's choice of log 1. With no command waiting and reset released, a step runs the first of the block's own
events that is due; with none due, one reference tick passes, which the two period counters count (R108), and which is a
tick of the Line Timebase at every 48,000th (R94). While reset is asserted nothing happens. The events are due in one fixed
order: a dispatch, the oldest completion notice, gate openings, releases, the merge grant, entry notices, then for each
imager the end of its carriage pulse, its emission end and its saturation, then the inputs by number, the expiries, and last
the request at the head of the queue. -/
def Obligations.IdleStepTakesDueEventOrTick : Prop :=
  (∀ s : State, s.pending = [] →
    (s.resetAsserted = true → step s = .next s) ∧
    (s.resetAsserted = false → ∀ (c : Instr) (cs : List Instr), s.due = c :: cs → step s = exec c s) ∧
    (s.resetAsserted = false → s.due = [] →
      ∃ t, step s = .next t ∧ t.clock.ref = s.clock.ref + 1 ∧
        t.clock.time = (if (s.clock.ref + 1) % 48000 = 0 then (s.clock.time + 1) % 4294967296 else s.clock.time) ∧
        ∀ i : Imager, (t.chan.get i).drum.period = min ((s.chan.get i).drum.period + 1) 16777215)) ∧
  (∀ s : State,
    let now := s.clock.time
    let l := s.line
    let running : Prop := l.state = .running
    let past : Option Nat → Bool := fun d => d.any fun t => decide (reached now t)
    let inZone : Zone → Option Item := fun z => l.items.find? fun it => decide (it.zone = z)
    let holds : Zone → Nat := fun z => (l.items.filter fun it => decide (it.zone = z)).length
    let gate : Zone → Zone → Bool := fun above zone =>
      decide (running ∧ inZone zone = none) && (inZone above).any fun it => decide (it.location = .atGate)
    let done : Zone → Zone → Bool := fun zone below =>
      (inZone zone).any fun it => decide (running ∧ it.location = .inStation ∧ it.work = some .done ∧ holds below < 2)
    let notice : Zone → Bool := fun zone =>
      (inZone zone).any fun it =>
        decide (running ∧ it.location = .inStation ∧ it.work = some .working ∧ it.entryTime.isSome = true)
    let drum : Imager → List (Instr × Bool) := fun i =>
      let c := s.chan.get i
      [(.carriagePulseEnd i, decide (c.out.step = true ∧ c.out.stepStart + 4800 ≤ s.clock.ref)),
        (.emissionEnd i, c.composer.job.any fun j => decide (c.seq.state = .exposing ∧ c.seq.emissionPending = true ∧
          (c.settings.g + j.x) * (2 * (c.settings.d + 1)) ≤ c.drum.period)),
        (.periodSaturation i, decide (c.seq.state = .exposing ∧ c.drum.period = 16777215))]
    let input : Nat → Instr × Bool := fun n =>
      let x := s.inputs.getD n ⟨true, 2, false, false, none⟩
      let active : Bool := x.raw == x.rising
      (if 24 ≤ n ∧ n ≤ 29 then (if active then .cartAttach (n - 24) else .cartDetach (n - 24))
        else if active = false then .inactiveEdgeAcceptance n
        else if n = 0 then .clampArrival .a
        else if n = 1 then .clampArrival .b
        else if n < 11 then .lineSensorArrival ([.exitA, .exitB, .tg, .ps, .lg, .bs, .og, .ss, .sd].getD (n - 2) .sd)
        else if n < 23 then .dieHomeArrival (n - 11)
        else if n = 23 then .bendDoneArrival
        else .exitEmptied (if n = 30 then .reject else .remake),
        x.change.any fun c => decide (c.start + x.filter * 48000 ≤ s.clock.ref ∧ c.notBefore ≤ s.clock.ref))
    let order : List (Instr × Bool) :=
      [(.dispatch, [Imager.a, .b].any fun i =>
          decide ((s.chan.get i).seq.state = .idle) && s.plates.queue.any fun n => s.eligible i n),
        (.completionNotice, decide (s.store.notices ≠ [])),
        (.gateOpen .punch, gate .transfer .punch), (.gateOpen .bend, gate .link .bend),
        (.gateOpen .sort, gate .outfeed .sort),
        (.itemRelease .punch, done .punch .link), (.itemRelease .bend, done .bend .outfeed),
        (.mergeGrant, decide (running ∧ holds .transfer < 4 ∧
          (l.merge.lastGrant = none ∨ l.merge.spacingOver = true) ∧ l.merge.requests ≠ [])),
        (.punchEntry, decide (s.punch.state = .idle) && notice .punch),
        (.bendEntry, decide (s.bend.state = .idle) && notice .bend),
        (.sortEntry, decide (s.sorter.state = .idle) && notice .sort)] ++
      drum .a ++ drum .b ++ (List.range 32).map input ++
      ((List.range 8).map fun n =>
        let c := s.rx.contexts.getD n ⟨.idle, none, 0, none⟩
        (.receiveTimeout n, decide (c.state = .receiving) && past c.deadline)) ++
      ([Imager.a, .b].map fun i =>
        (.loadTimeout i, decide ((s.chan.get i).seq.state = .loading) && past (s.chan.get i).seq.loadDeadline)) ++
      ([Imager.a, .b].map fun i =>
        (.spinupTimeout i, decide ((s.chan.get i).seq.state = .spinup) && past (s.chan.get i).seq.spinDeadline)) ++
      [(.spacingExpiry, decide (l.merge.spacingOver = false) && past l.merge.deadline)] ++
      ([LineSensor.exitA, .exitB, .tg, .ps, .lg, .bs, .og, .ss, .sd].map fun x =>
        (.windowExpiry x, decide running &&
          (l.items.find? fun it => it.window.any fun w => decide (w.sensor = x)).any fun it =>
            it.window.any fun w => decide (w.frozen = false) && past w.deadline)) ++
      [(.dieTimeout, decide (s.punch.state = .stroking) && past s.punch.deadline),
        (.bendTimeout, decide (s.bend.state = .bending) && past s.bend.deadline)]
    let request : List Instr := match s.link.requests with
      | [] => []
      | t :: _ => if s.link.replies.length < 16 then [t.command] else []
    s.due = (order.filter Prod.snd).map Prod.fst ++ request)

/-- The state after power-on reset (R24, R55, R72, R93, R104, R129, R154, R157 to R160, R167, R172, R176, R177, R192,
R199), with the attach events of R99 taken: every cart found at its active level is PRESENT. The command queue and the
count of free choices are the model's own and are kept. What the spec leaves undefined after reset is the model's choice:
the memory lists nothing (log 11), the swath buffers hold no beam, no pulse has begun (log 10), and no free choice has
been made at `State.reset` (log 9); no dispatch pass is owed (log 5) and no item has been retired at the sort station
(log 29), which are the model's own fields; the next die place is 0 (log 35), and redirected here is clear (log 40).
`State.reset` is this state with every input and phase low (log 10). -/
def Obligations.PowerOnReset : Prop :=
  ∀ (levels : BitVec 32) (phaseA phaseB : Phase) (s : State),
    let composer : Composer :=
      { job := none, nextFill := 0, nextEmit := 0, fill := none, buf0 := ⟨.free, 0, []⟩, buf1 := ⟨.free, 0, []⟩ }
    let seq : Sequencer :=
      { state := .idle, build := none, retired := false, loadDeadline := none, spinDeadline := none, validRun := 0,
        revolution := none, emissionPending := false, stepDue := false, skipRun := 0, skipped := 0, steps := 0,
        written := 0, fault := none }
    let settings : Settings :=
      { d := 39, pRev := 36000, c := 36000, mult := 4, tol := 4, g := 2000, skipLimit := 3, e := 2880000, wt := 2812 }
    let drum : Phase → Drum := fun ph =>
      { position := 0, period := 0, latch := 0, net := 0, reverse := false, first := true, judgment := some .first,
        phase := ph }
    let out : ImagerOut := { drumRun := false, load := false, eject := false, step := false, stepStart := 0 }
    let t : State :=
      { pending := s.pending, resetAsserted := false, freeCount := s.freeCount, passOwed := false, clock := ⟨0, 0⟩,
        link := { requests := [], replies := [], holding := none, lane := none, timing := ⟨5000, 8000, 10000, 1000, 4000⟩ },
        rx := { contexts := List.replicate 8 ⟨.idle, none, 0, none⟩, writer := none },
        store :=
          { directory := [], freeCells := 32768, idleCells := List.range 32768,
            port := { busy := none, waitReceive := false, waitA := false, waitB := false, last := .b },
            notices := [], memory := [] },
        plates := { sizes := List.replicate 4 none, map := [], builds := [], queue := [], pendingList := [] },
        sched :=
          { lineHolds := List.replicate 8 false, assignment := List.replicate 8 none, stock := ⟨⟨0, 0⟩, ⟨0, 0⟩⟩ },
        chan := ⟨⟨composer, seq, settings, drum phaseA, out⟩, ⟨composer, seq, settings, drum phaseB, out⟩⟩,
        line :=
          { state := .stopped, items := [], counter := 0, halt := none,
            table :=
              { kinds := [⟨100, 3000⟩, ⟨800, 8000⟩, ⟨400, 5000⟩, ⟨400, 5000⟩, ⟨100, 2000⟩, ⟨100, 2000⟩, ⟨100, 2000⟩,
                  ⟨100, 1500⟩],
                spacing := 4000 },
            merge := { requests := [], lastGrant := none, deadline := none, spacingOver := false },
            out := ⟨false, false, false, false, false, false⟩ },
        punch :=
          { presses := List.replicate 6 none, patterns := List.replicate 16 none, state := .idle, item := none,
            pattern := none, nextDie := 0, die := none, start := none, deadline := none, halted := false, strays := 0,
            dies := List.replicate 12 false },
        bend :=
          { profiles := List.replicate 8 none, state := .idle, item := none, profile := none, bend := none,
            start := none, deadline := none, halted := false, strays := 0, outLead := false, outTail := false },
        sorter :=
          { carts := (List.range 6).map fun n => ⟨none, levels.getLsbD (24 + n), []⟩, rejects := 0, remakes := 0,
            state := .idle, item := none, destination := none, divert := none, redirected := false, retiredHere := false,
            exitCode := 6 },
        inputs := (List.range 32).map fun n => ⟨true, 2, levels.getLsbD n, levels.getLsbD n, none⟩,
        reports := { events := [], slots := ⟨none, none, none, none, none, none, none⟩, mask := 0, seq := 0 } }
    exec (.powerOnReset levels phaseA phaseB) s = .next t ∧
      (levels = 0 → phaseA = ⟨false, false⟩ → phaseB = ⟨false, false⟩ → s.pending = [] → s.freeCount = 0 → t = State.reset)

/-- RESET_N asserted (R104): every output is RELEASED and SORT_EXIT holds code 6, and the flag follows; no beam is on. While
reset is asserted no other command has an effect (the model's choice, log 13). -/
def Obligations.ResetAsserted : Prop :=
  ∀ s : State,
    (exec .resetAsserted s = .next { s with
      resetAsserted := true,
      chan := ⟨{ s.chan.a with out := ⟨false, false, false, false, 0⟩ }, { s.chan.b with out := ⟨false, false, false, false, 0⟩ }⟩,
      line := { s.line with out := ⟨false, false, false, false, false, false⟩ },
      punch := { s.punch with dies := List.replicate 12 false },
      bend := { s.bend with outLead := false, outTail := false },
      sorter := { s.sorter with exitCode := 6 } }) ∧
    (s.resetAsserted = true →
      (∀ (i : Imager) (b : Nat), s.beamLane i b = false) ∧
      ∀ c : Instr, c ≠ .resetAsserted → (∀ l p q, c ≠ .powerOnReset l p q) → exec c s = .next s)

/-- The invariants hold at reset, and no dispatch pass is owed there (the last by the model's choice of log 5). -/
def Obligations.ResetMeetsInvariants : Prop :=
  MemoryCanonical State.reset ∧ CellPoolBalanced State.reset ∧ CellsAccounted State.reset ∧ BuildsSound State.reset ∧
    LinkBounded State.reset ∧ ExitsBounded State.reset ∧ ZonesBounded State.reset ∧ State.reset.passOwed = false

/-- Every step keeps the raster memory in its canonical form. -/
def Obligations.StepKeepsMemoryCanonical : Prop :=
  ∀ s t : State, MemoryCanonical s → step s = .next t → MemoryCanonical t

/-- Every step keeps one record of each key and version in a directory of at most 256, and the balance of the cell pool
(R1, R3, R4, R18, R22, R25); and it keeps every cell accounted for, so that the idle cell list holds no duplicate and is as
long as the free cell count with the height less the bands received of every RECEIVING record (R3). Every step keeps the
plate tables sound: build ids (R34), the exposure queue (R57), the pending list (R42) and the one current plate of a plate id
(R36). -/
def Obligations.StepKeepsCellPoolBalanced : Prop :=
  (∀ s t : State, CellPoolBalanced s → step s = .next t → CellPoolBalanced t) ∧
  (∀ s t : State, CellPoolBalanced s → CellsAccounted s → step s = .next t → CellsAccounted t) ∧
  (∀ s : State, CellPoolBalanced s → CellsAccounted s →
    s.store.idleCells.Nodup ∧ s.store.idleCells.length = s.store.freeCells +
      ((s.store.directory.filter fun r => decide (r.state = .receiving)).map fun r => r.height - r.bands).sum) ∧
  (∀ s t : State, BuildsSound s → step s = .next t → BuildsSound t)

/-- Every step keeps the bounds of the queues and numbers of chapter 10 (R94, R190, R191, R193, R195, R197). -/
def Obligations.StepKeepsLinkBounds : Prop :=
  ∀ s t : State, LinkBounded s → step s = .next t → LinkBounded t

/-- Every step keeps the two counted exits within their capacities, and a deposit under way to an exit with room
(R176, R177, R179, R180); and, of items with different order numbers, every step keeps each zone of the line within its
capacity, which makes at most 11 items (R133). -/
def Obligations.StepKeepsExitBounds : Prop :=
  (∀ s t : State, ExitsBounded s → step s = .next t → ExitsBounded t) ∧
  (∀ s t : State, (s.line.items.map fun it => it.order).Nodup → ZonesBounded s → step s = .next t → ZonesBounded t) ∧
  (∀ s : State, ZonesBounded s → s.line.items.length ≤ 11)

/-! ### The Page Link (chapter 10) -/

/-- When a request command does not find its request ready (R191, log 3): while another request is at the head of the
queue it has no effect of its own; with the reply list full, a request that arrives on the empty queue joins it, and one
at the head waits. -/
def Obligations.RequestWaitsForItsTurn : Prop :=
  ∀ (c : Instr) (t : TaggedRequest) (s : State), c.request? = some t → s.resetAsserted = false →
    (∀ u us, s.link.requests = u :: us → u ≠ t → exec c s = .next s.finish) ∧
    (∀ us, s.link.requests = t :: us → 16 ≤ s.link.replies.length → exec c s = .next s.finish) ∧
    (s.link.requests = [] → 16 ≤ s.link.replies.length →
      exec c s = .next (State.finish { s with link := { s.link with requests := [t] } }))

/-- The frame that carries a well-formed request joins the tail of the request queue as exactly that request (R186 to
R188, R190, Tables 10.1 to 10.3, 10.5, 10.7): no field of any request is dropped or altered on the way. -/
def Obligations.RequestFrameJoinsQueue : Prop :=
  ∀ (t : TaggedRequest) (s : State), t.request.wf = true → t.tag < 256 → s.resetAsserted = false →
    s.link.requests.length < 8 →
    exec (.downstreamFrame (requestFrame t)) s =
      .next (State.finish { s with link := { s.link with requests := s.link.requests ++ [t] } })

/-- Frames that do not join the request queue (R188, R190, R191). A frame shorter than 9 bytes, of another length than its
header tells, or a band frame without a band index is a BAD_FRAME; one whose last four bytes are not the frame check is a
BAD_CHECK; each raises LINK with the bytes found in the header, or all ones. An unknown kind, a wrong payload length and a
full queue are answered at once, or raise LINK with REPLY_DROPPED when they find 16 replies, or 15 while the request at the head
of the queue is being applied, which it is from the moment the list has room for its reply (log 4). -/
def Obligations.FrameDiscardedOrAnsweredAtOnce : Prop :=
  ∀ (bs : List Byte) (s : State), s.resetAsserted = false →
    let size := field bs 2 3
    let kind := field bs 0 1
    let tag := field bs 1 1
    let payload := (bs.drop 5).take size
    let found : Nat → Nat := fun n => if h : n < bs.length then bs[n].toNat else 255
    let link : LinkCause → State := fun cause => State.finish { s with
      reports := s.reports.raise .link (.link ⟨cause, found 0, found 1, none, s.clock.time⟩) s.clock.time }
    let reply : Code → State := fun c => State.finish
      (if s.link.replies.length < (if s.link.requests = [] then 16 else 15) then
        { s with link := { s.link with replies := s.link.replies ++ [⟨tag, kind, c, []⟩] } }
      else { s with
        reports := s.reports.raise .link (.link ⟨.replyDropped, kind, tag, none, s.clock.time⟩) s.clock.time })
    if bs.length < 9 ∨ bs.length ≠ 9 + size ∨ (kind = 1 ∧ size < 2) then
      exec (.downstreamFrame bs) s = .next (link .badFrame)
    else if bs.drop (5 + size) ≠ checkBytes (bs.take (5 + size)) then
      exec (.downstreamFrame bs) s = .next (link .badCheck)
    else if kind = 1 then True
    else if kind < 16 ∨ 44 < kind then exec (.downstreamFrame bs) s = .next (reply .unknown)
    else if payloadLength kind payload ≠ some size then exec (.downstreamFrame bs) s = .next (reply .range)
    else if 8 ≤ s.link.requests.length then exec (.downstreamFrame bs) s = .next (reply .busy)
    else exec (.downstreamFrame bs) s =
      .next (State.finish { s with link := { s.link with requests := s.link.requests ++ [⟨tag, requestOf kind payload⟩] } })

/-- A band frame with a good check (R189): with the holding place occupied it is a band overrun; with the place empty and
the writer busy it is held; with both free it is judged by the Receive Context Unit (R11 to R13, Table 1.3), as an orphan,
a duplicate, a band lost, a band of wrong length, or the next band, which takes the head idle cell, is handed to the
writer, and sets the deadline again or makes the context COMPLETING. `State.passHeld`, which other statements name, passes
the frame in the holding place to the same judgment when the writer is free, and does nothing otherwise; by the choice of
log 32 an orphan so passed on is stamped with the time at which it passes. Next band 0 of the context of a dropped page is
the choice of log 30. -/
def Obligations.BandFrameArrives : Prop :=
  ∀ (tag index : Nat) (data : List Byte) (s : State), tag < 256 → index < 65536 → data.length < 16777214 →
    let f : BandFrame := ⟨tag, be 2 index ++ data⟩
    let link : LinkCause → State → State := fun cause u => { u with
      reports := u.reports.raise .link (.link ⟨cause, 1, tag, some index, u.clock.time⟩) u.clock.time }
    let judged : State → State := fun u =>
      let ctx := u.rx.contexts.getD tag ⟨.idle, none, 0, none⟩
      match ctx.record.bind fun kv => u.store.directory.find? fun r => decide (r.key = kv.1) && decide (r.version = kv.2) with
      | none => link .orphanBand u
      | some r =>
        if ctx.state = .idle then link .orphanBand u
        else if index < ctx.nextBand then u
        else if ctx.nextBand < index ∨ ctx.state = .completing then u.dropped r .gap (some index) 0
        else if data.length ≠ r.width * 2048 then u.dropped r .length (some index) 0
        else
          let cell := u.store.idleCells.headD 0
          { u with
            rx := {
              contexts := u.rx.contexts.set tag
                (if index + 1 < r.height then
                  { ctx with
                    nextBand := index + 1, deadline := some ((u.clock.time + u.link.timing.receive) % 4294967296) }
                else { ctx with state := .completing, nextBand := index + 1, deadline := none }),
              writer := some ⟨r.key, r.version, tag, cell, r.width, 0, data⟩ },
            store := { u.store with
              idleCells := u.store.idleCells.tail,
              directory := u.store.directory.map fun q =>
                if q.key = r.key ∧ q.version = r.version then { q with chain := q.chain ++ [cell], bands := q.bands + 1 }
                else q,
              port := u.store.port.request .receive } }
    (s.resetAsserted = false → exec (.downstreamFrame (frameBytes 1 tag (be 2 index ++ data))) s = .next (State.finish (
      match s.link.holding, s.rx.writer with
      | some _, _ => link .bandOverrun s
      | none, some _ => { s with link := { s.link with holding := some f } }
      | none, none => judged s))) ∧
    (s.link.holding = some f → s.rx.writer = none →
      s.passHeld = judged { s with link := { s.link with holding := none } }) ∧
    (s.link.holding = none ∨ s.rx.writer ≠ none → s.passHeld = s)

/-- The end of an upstream frame (R197): the oldest reply is sent next; with no reply, the report that `Reports.choose`
picks, which leaves its queue or slot and takes the next sequence number as its tag; with none to send the lane idles. The
report picked (Table 10.9) waits, its level is at or above the mask, and no sendable report is of a higher level, nor of its
level and waiting longer; none is picked only when no report is sendable. Of several that came at one time the free value
decides (log 9). What waits are the reports of the event queue and the pending slots, each with its type (Table 10.4), its
level (Table 10.9) and the time since its offer or since its slot became pending. An event report offered joins the tail of
the queue, or with 64 in it is discarded and OVERFLOW raised (R195). A condition raised on an empty slot is pending from now
with repeat count 0; on a pending one it takes the place of the content, the repeat count rises by 1 up to 255, and the time
since which the slot is pending is kept (R196). -/
def Obligations.UpstreamFrameEnds : Prop :=
  (∀ s : State, s.resetAsserted = false → s.passOwed = false →
    (∀ r rs, s.link.replies = r :: rs →
      exec .upstreamFrameEnd s = .next { s with link := { s.link with
        lane := some ⟨128, r.tag, be 1 r.kind ++ be 1 (completionCode r.code) ++ r.result⟩, replies := rs } }) ∧
    (s.link.replies = [] → s.reports.choose s.clock.time s.freeCount = none →
      exec .upstreamFrameEnd s = .next { s with link := { s.link with lane := none } }) ∧
    (∀ n e free, s.link.replies = [] → s.reports.choose s.clock.time s.freeCount = some (.event n, free) →
      s.reports.events[n]? = some e →
      exec .upstreamFrameEnd s = .next { s with
        link := { s.link with
          lane := some ⟨129, s.reports.seq,
            be 1 e.body.type ++ be 1 e.body.level ++ be 1 0 ++ be 4 e.time ++ e.body.bytes⟩ },
        reports := { s.reports with events := s.reports.events.eraseIdx n, seq := (s.reports.seq + 1) % 256 },
        freeCount := free }) ∧
    (∀ src c free, s.link.replies = [] → s.reports.choose s.clock.time s.freeCount = some (.slot src, free) →
      s.reports.slots.get src = some c →
      exec .upstreamFrameEnd s = .next { s with
        link := { s.link with
          lane := some ⟨129, s.reports.seq,
            be 1 src.type ++ be 1 src.level ++ be 1 c.repeats ++ be 4 c.latest ++ c.body.bytes⟩ },
        reports := { s.reports with slots := s.reports.slots.set src none, seq := (s.reports.seq + 1) % 256 },
        freeCount := free })) ∧
  (∀ (r : Reports) (now free : Nat),
    let waiting := r.eventCandidates now ++ r.slotCandidates now
    match r.choose now free with
    | none => ∀ d ∈ waiting, d.level < r.mask
    | some (p, _) => ∃ c ∈ waiting, c.pick = p ∧ r.mask ≤ c.level ∧
        ∀ d ∈ waiting, r.mask ≤ d.level → d.level < c.level ∨ (d.level = c.level ∧ d.age ≤ c.age)) ∧
  (∀ (r : Reports) (now : Nat) (c : Candidate),
    let since : Nat → Nat := fun t => (now + 4294967296 - t) % 4294967296
    (c ∈ r.eventCandidates now ↔ ∃ n e, r.events[n]? = some e ∧ c = ⟨.event n, e.body.level, since e.time⟩) ∧
    (c ∈ r.slotCandidates now ↔ ∃ src k, r.slots.get src = some k ∧ c = ⟨.slot src, src.level, since k.since⟩)) ∧
  (∀ (done : PageDone) (exposed : PlateExposed) (delivered : PlateDelivered) (dropped : PageDropped)
      (rejected : PlateRejected),
    ([EventBody.pageDone done, .plateExposed exposed, .plateDelivered delivered, .pageDropped dropped,
      .plateRejected rejected].map fun b => (b.type, b.level)) = [(1, 0), (2, 1), (3, 1), (4, 2), (5, 2)]) ∧
  ([Source.line, .imagerA, .imagerB, .stockA, .stockB, .link, .overflow].map fun src => (src.type, src.level)) =
    [(16, 3), (17, 3), (18, 3), (19, 1), (20, 1), (21, 1), (22, 2)] ∧
  (∀ (r : Reports) (body : EventBody) (now : Nat),
    (r.events.length < 64 → r.offer body now = { r with events := r.events ++ [⟨body, now⟩] }) ∧
    (64 ≤ r.events.length → r.offer body now = r.raise .overflow (.overflow ⟨body.type, body.level, now⟩) now)) ∧
  (∀ (r : Reports) (src other : Source) (content : ConditionBody) (now : Nat),
    let t := r.raise src content now
    t.events = r.events ∧ t.mask = r.mask ∧ t.seq = r.seq ∧ (other ≠ src → t.slots.get other = r.slots.get other) ∧
    t.slots.get src = some (match r.slots.get src with
      | none => ⟨content, 0, now, now⟩
      | some c => ⟨content, if c.repeats < 255 then c.repeats + 1 else 255, c.since, now⟩))

/-! ### Pages and the raster store (chapter 1) -/

/-- PAGE OPEN (R9, R10): the refusals in their order, each changing nothing; otherwise a RECEIVING record is created, its
height reserved, and its context RECEIVING with the receive deadline. -/
def Obligations.PageOpenRefusedOrApplied : Prop :=
  ∀ (tag stream : Nat) (k : PageKey) (v width height retain : Nat) (s : State),
    let t : TaggedRequest := ⟨tag, .pageOpen stream k v width height retain⟩
    Ready s t →
    exec (.pageOpen tag stream k v width height retain) s = .next (
      if ¬ (stream ≤ 7 ∧ k.edition ≤ 15 ∧ k.zone ≤ 15 ∧ k.sect ≤ 15 ∧ 1 ≤ k.page ∧ k.page ≤ 255 ∧ k.sep ≤ 3 ∧
          1 ≤ v ∧ v ≤ 255 ∧ 1 ≤ width ∧ width ≤ 64 ∧ 1 ≤ height ∧ height ≤ 512 ∧ (retain = 0 ∨ retain = 1)) then
        s.answering t .range []
      else if (s.rx.contexts.getD stream ⟨.idle, none, 0, none⟩).state ≠ .idle then s.answering t .busy []
      else if ∃ r ∈ s.store.directory, r.key = k ∧ v ≤ r.version then s.answering t .stale []
      else if 256 ≤ s.store.directory.length then s.answering t .full []
      else if s.store.freeCells < height then s.answering t .noSpace []
      else State.answering { s with
        store := { s.store with
          directory := s.store.directory ++
            [{ key := k, version := v, width := width, height := height, bands := 0, chain := [], state := .receiving,
               retain := decide (retain = 1), refs := 0, stream := some stream }],
          freeCells := s.store.freeCells - height },
        rx := { s.rx with
          contexts := s.rx.contexts.set stream
            ⟨.receiving, some (k, v), 0, some ((s.clock.time + s.link.timing.receive) % 4294967296)⟩ } } t .ok [])

/-- PAGE ABANDON (R16): a tag of 8..255 is refused RANGE, an IDLE context NOT_FOUND; otherwise the record that the context
feeds is dropped ABANDONED (R18), and a frame in the holding place passes on if the writer is free (R189). PAGE RELEASE
(R17, R20, R22): out of range, no such record; otherwise the retain flag is cleared, and the record is freed when nothing is
bound to it, it is not RECEIVING and no completion notice of it is unanswered. `Store.dropRefs`, which other statements name, gives up the
positions of a plate one after another (R21): each bound one lowers the count of its record by 1, and the record is freed
when the freeing condition then holds (R22); a WAITING or BLANK position gives up nothing. Next band 0 of the context of a
dropped page is the choice of log 30. -/
def Obligations.PageAbandonAndRelease : Prop :=
  (∀ (tag stream : Nat) (s : State),
    let t : TaggedRequest := ⟨tag, .pageAbandon stream⟩
    Ready s t →
    (8 ≤ stream → exec (.pageAbandon tag stream) s = .next (s.answering t .range [])) ∧
    (stream < 8 → (s.rx.contexts.getD stream ⟨.idle, none, 0, none⟩).state = .idle →
      exec (.pageAbandon tag stream) s = .next (s.answering t .notFound [])) ∧
    (∀ k v r, stream < 8 → (s.rx.contexts.getD stream ⟨.idle, none, 0, none⟩).state ≠ .idle →
      (s.rx.contexts.getD stream ⟨.idle, none, 0, none⟩).record = some (k, v) → s.store.find k v = some r →
      exec (.pageAbandon tag stream) s = .next ((s.dropped r .abandoned none 0).passHeld.answering t .ok []))) ∧
  (∀ (tag : Nat) (k : PageKey) (v : Nat) (s : State),
    let t : TaggedRequest := ⟨tag, .pageRelease k v⟩
    Ready s t →
    (¬ (k.edition ≤ 15 ∧ k.zone ≤ 15 ∧ k.sect ≤ 15 ∧ 1 ≤ k.page ∧ k.page ≤ 255 ∧ k.sep ≤ 3 ∧ 1 ≤ v ∧ v ≤ 255) →
      exec (.pageRelease tag k v) s = .next (s.answering t .range [])) ∧
    (keyOk k = true → 1 ≤ v → v ≤ 255 → s.store.find k v = none →
      exec (.pageRelease tag k v) s = .next (s.answering t .notFound [])) ∧
    (∀ r, keyOk k = true → 1 ≤ v → v ≤ 255 → s.store.find k v = some r →
      exec (.pageRelease tag k v) s = .next (State.answering { s with store :=
        if r.refs = 0 ∧ r.state ≠ .receiving ∧ ¬ (∃ n ∈ s.store.notices, n.key = k ∧ n.version = v) then
          { s.store with
            directory := s.store.directory.filter fun q => !decide (q.key = k ∧ q.version = v),
            idleCells := s.store.idleCells ++ r.chain, freeCells := s.store.freeCells + r.height }
        else
          { s.store with directory := s.store.directory.map fun q =>
              if q.key = k ∧ q.version = v then { q with retain := false } else q } } t .ok []))) ∧
  (∀ (st : Store) (b : Binding) (bs : List Binding), st.dropRefs (b :: bs) = (st.dropRefs [b]).dropRefs bs) ∧
  (∀ st : Store, st.dropRefs [] = st ∧ st.dropRefs [.waiting] = st ∧ st.dropRefs [.blank] = st) ∧
  (∀ (st : Store) (k : PageKey) (v : Nat),
    (st.directory.Pairwise fun q r => ¬ (q.key = r.key ∧ q.version = r.version)) →
    ((∀ r ∈ st.directory, ¬ (r.key = k ∧ r.version = v)) → st.dropRefs [.bound k v] = st) ∧
    (∀ r ∈ st.directory, r.key = k → r.version = v → st.dropRefs [.bound k v] =
      if r.refs ≤ 1 ∧ (r.state = .superseded ∨ (r.state = .current ∧ r.retain = false)) ∧
          ¬ (∃ n ∈ st.notices, n.key = k ∧ n.version = v) then
        { st with
          directory := st.directory.filter fun q => !decide (q.key = k ∧ q.version = v),
          idleCells := st.idleCells ++ r.chain, freeCells := st.freeCells + r.height }
      else { st with directory := st.directory.map fun q =>
        if q.key = k ∧ q.version = v then { q with refs := q.refs - 1 } else q }))

/-- The receive deadline of a RECEIVING context is reached (R15): its record is dropped TIMEOUT (R18), and a frame in the
holding place passes on if the writer is free (R189). Next band 0 of its context is the choice of log 30. -/
def Obligations.ReceiveTimeoutDropsRecord : Prop :=
  ∀ (stream : Nat) (k : PageKey) (v : Nat) (r : PageRecord) (d : Nat) (s : State), s.resetAsserted = false →
    (s.rx.contexts.getD stream ⟨.idle, none, 0, none⟩).state = .receiving →
    (s.rx.contexts.getD stream ⟨.idle, none, 0, none⟩).record = some (k, v) →
    (s.rx.contexts.getD stream ⟨.idle, none, 0, none⟩).deadline = some d → reached s.clock.time d →
    s.store.find k v = some r →
    exec (.receiveTimeout stream) s = .next (s.dropped r .timeout none 0).passHeld.finish

/-- The end of a transfer of the receive writer (R6, R7, R14): the line's bytes are in its cell and every other byte of the
raster memory is as before; a line before the 64th goes on to the next line, for which the writer waits again; after the
64th the writer is free, a COMPLETING context's page completes (R19), and the held frame passes on (R189). A transfer that
would leave its cell or the store stops with the fault of log 22 and writes nothing. -/
def Obligations.LineTransferEnds : Prop :=
  ∀ (j : WriteJob) (s : State), MemoryCanonical s → s.resetAsserted = false →
    s.store.port.busy = some ⟨.receive, false⟩ →
    s.rx.writer = some j →
    let size := j.width * 32
    let off := j.nextLine * size
    let bytes := (j.data.drop off).take size
    let memory := Memory.writeBytes s.store.memory (j.cell * 131072 + off) bytes
    let ctx := s.rx.contexts.getD j.stream ⟨.idle, none, 0, none⟩
    let port : Port := { s.store.port with busy := none }
    (∀ a : Nat, Memory.read memory a =
      if j.cell * 131072 + off ≤ a ∧ a < j.cell * 131072 + off + bytes.length then
        bytes.getD (a - (j.cell * 131072 + off)) 0
      else Memory.read s.store.memory a) ∧
    (¬ (j.cell < 32768 ∧ off + size ≤ 131072) → exec .transferEnd s = .fault .outsideRasterStore) ∧
    (j.cell < 32768 → off + size ≤ 131072 → j.nextLine + 1 ≠ 64 →
      exec .transferEnd s = .next (State.finish { s with
        rx := { s.rx with writer := some { j with nextLine := j.nextLine + 1 } },
        store := { s.store with memory := memory, port := Port.arbitrate { port with waitReceive := true } } })) ∧
    (j.cell < 32768 → off + size ≤ 131072 → j.nextLine + 1 = 64 →
      ¬ (ctx.state = .completing ∧ ctx.record = some (j.key, j.version)) →
      exec .transferEnd s = .next (State.finish (State.arbitratePort (State.passHeld { s with
        rx := { s.rx with writer := none }, store := { s.store with memory := memory, port := port } })))) ∧
    (j.cell < 32768 → off + size ≤ 131072 → j.nextLine + 1 = 64 → ctx.state = .completing →
      ctx.record = some (j.key, j.version) →
      exec .transferEnd s = .next (State.finish (State.arbitratePort (State.passHeld (State.completePage j.key j.version j.stream
        { s with rx := { s.rx with writer := none }, store := { s.store with memory := memory, port := port } })))))

/-- The store port (R6): an idle port is granted to the waiting requester that follows the last one granted in the cyclic
order receive, A, B; with none waiting it stays idle and keeps its record; a port in use is not granted. -/
def Obligations.StorePortGrantsInCyclicOrder : Prop :=
  ∀ p : Port,
    (∀ t, p.busy = some t → p.arbitrate = p) ∧
    (p.busy = none → p.waitReceive = false → p.waitA = false → p.waitB = false → p.arbitrate = p) ∧
    (p.busy = none → p.waitReceive = true → (p.last = .b ∨ (p.last = .a ∧ p.waitB = false) ∨ (p.waitA = false ∧ p.waitB = false)) →
      p.arbitrate = { p with busy := some ⟨.receive, false⟩, waitReceive := false, last := .receive }) ∧
    (p.busy = none → p.waitA = true → (p.last = .receive ∨ (p.last = .b ∧ p.waitReceive = false) ∨ (p.waitReceive = false ∧ p.waitB = false)) →
      p.arbitrate = { p with busy := some ⟨.a, false⟩, waitA := false, last := .a }) ∧
    (p.busy = none → p.waitB = true → (p.last = .a ∨ (p.last = .receive ∧ p.waitA = false) ∨ (p.waitReceive = false ∧ p.waitA = false)) →
      p.arbitrate = { p with busy := some ⟨.b, false⟩, waitB := false, last := .b })

/-- The end of a transfer of a Swath Composer (R6, R81, R88): the segment is combined into its beam's row; the fill goes on
to its next place, for which the composer waits again, or it completes with its buffer FULL, and the next fill may start
(R87). A discarded transfer has no effect but to free the port (R6). The places of a fill are taken in the order beam 0 to
31 and, for each beam, position 0 to 3 (R84); a place makes a transfer when its position is not BLANK, its plate line lies on
the plate and is covered by the placement, and V is not 0 (R83). The segment sets the plate pixels x0 .. x0 + V - 1 of its
row to the page pixels, in reverse at rotation 180, most significant bit first (R78, R79, R83). A fill starts when a job is
held, no fill is in progress, swaths are left and a buffer is FREE, in the FREE buffer of the lower number, every beam off;
without a transfer to make it is FULL at once (R87, R88). -/
def Obligations.SegmentTransferEnds : Prop :=
  (∀ (i : Imager) (s : State), s.resetAsserted = false →
    let who : Requester := match i with
      | .a => .a
      | .b => .b
    let port : Port := { s.store.port with busy := none }
    let c := s.chan.get i
    (∀ r, s.store.port.busy = some ⟨r, true⟩ →
      exec .transferEnd s = .next (State.finish { s with store := { s.store with port := port.arbitrate } })) ∧
    (s.store.port.busy = some ⟨who, false⟩ → c.composer.transferInside = false →
      exec .transferEnd s = .fault .outsideRasterStore) ∧
    (∀ j f p y, s.store.port.busy = some ⟨who, false⟩ → c.composer.job = some j → c.composer.fill = some f →
      j.transferAt f.swath f.place = some (p, y) → c.composer.transferInside = true →
      let b := if f.buffer = 0 then c.composer.buf0 else c.composer.buf1
      let line := sourceLine p.rotated p.h p.t (y - p.y0)
      let seg := p.segment s.store.memory
        (p.chain.getD (line / 64) 0 * 131072 + line % 64 * p.width * 32)
      let rows := b.rows.set (f.place / 4) (b.rows.getD (f.place / 4) 0 ||| seg)
      (∀ place, j.nextPlace f.swath (f.place + 1) = some place →
        exec .transferEnd s = .next (State.finish { s with
          chan := s.chan.set i { c with composer :=
            { c.composer.setBuffer f.buffer { b with rows := rows } with fill := some { f with place := place } } },
          store := { s.store with port := (port.setWait who true).arbitrate } })) ∧
      (j.nextPlace f.swath (f.place + 1) = none →
        let r := ({ c.composer.setBuffer f.buffer { b with rows := rows, state := .full } with fill := none } : Composer).startFills
        exec .transferEnd s = .next (State.finish { s with
          chan := s.chan.set i { c with composer := r.1 },
          store := { s.store with port := (if r.2 then port.setWait who true else port).arbitrate } })))) ∧
  (∀ (j : Job) (swath from_ n : Nat), j.nextPlace swath from_ = some n ↔
    from_ ≤ n ∧ n < 128 ∧ j.transferAt swath n ≠ none ∧ ∀ m, from_ ≤ m → m < n → j.transferAt swath m = none) ∧
  (∀ (j : Job) (swath place y : Nat) (p : Placement), j.transferAt swath place = some (p, y) ↔
    j.positions[place % 4]? = some (some p) ∧ y = 32 * swath + place / 4 ∧ y < j.l ∧ p.y0 ≤ y ∧ y < p.y0 + p.t ∧ 0 < p.v) ∧
  (∀ (p : Placement) (m : List Host.Cell) (a x : Nat), (p.segment m a).testBit x =
    let pixel : Nat → Bool := fun n => (Memory.read m (a + n / 8)).getLsbD (7 - n % 8)
    (decide (p.x0 ≤ x ∧ x < p.x0 + p.v) && pixel (if p.rotated = true then p.w - 1 - (x - p.x0) else x - p.x0))) ∧
  (∀ c : Composer,
    (∀ j n b, c.job = some j → c.fill = none → c.nextFill < j.n →
      ((n = 0 ∧ b = c.buf0 ∧ b.state = .free) ∨ (n = 1 ∧ b = c.buf1 ∧ b.state = .free ∧ c.buf0.state ≠ .free)) →
      let put : Buffer → Composer := fun b =>
        if n = 0 then { c with nextFill := c.nextFill + 1, buf0 := b } else { c with nextFill := c.nextFill + 1, buf1 := b }
      c.startFill = match j.nextPlace c.nextFill 0 with
        | some place =>
          ({ put ⟨.filling, c.nextFill, List.replicate 32 0⟩ with fill := some ⟨n, c.nextFill, place⟩ }, true)
        | none => (put ⟨.full, c.nextFill, List.replicate 32 0⟩, false)) ∧
    (c.job = none ∨ c.fill ≠ none ∨ (∃ j, c.job = some j ∧ j.n ≤ c.nextFill) ∨
      (c.buf0.state ≠ .free ∧ c.buf1.state ≠ .free) → c.startFill = (c, false)) ∧
    c.startFills = if c.startFill.2 then c.startFill else c.startFill.1.startFill)

/-- Completion of a page (R19), in a directory with one record of each key and version (R1): the record becomes CURRENT
and its context IDLE; the record that was CURRENT becomes SUPERSEDED and, with nothing bound to it and no unanswered
notice, is freed (R22); every lower RECEIVING version is dropped OVERTAKEN (R18); the notice joins those outstanding. The
order in which the overtaken versions are dropped, that of the directory, is the model's choice (log 25), and so is next band
0 of the context (log 30). -/
def Obligations.PageCompletes : Prop :=
  ∀ (k : PageKey) (v stream : Nat) (r : PageRecord) (s : State), DirectoryDistinct s → s.store.find k v = some r →
    r.state = .receiving →
    let is : Nat → PageRecord → Bool := fun w q => decide (q.key = k ∧ q.version = w)
    let directory := s.store.directory.map fun q => if is v q then { q with state := .current, stream := none } else q
    let contexts := s.rx.contexts.set stream ⟨.idle, none, 0, none⟩
    let finish : State → Nat → State := fun u superseded =>
      let lower := u.store.directory.filter fun q => decide (q.key = k ∧ q.state = .receiving ∧ q.version < v)
      let w := lower.foldl (fun x q => x.dropped q .overtaken none v) u
      { w with store := { w.store with notices := w.store.notices ++ [⟨k, v, superseded, lower.length⟩] } }
    (s.store.current k = none →
      s.completePage k v stream = finish { s with
        rx := { s.rx with contexts := contexts }, store := { s.store with directory := directory } } 0) ∧
    (∀ o, s.store.current k = some o →
      let superseded := directory.map fun q => if is o.version q then { q with state := .superseded } else q
      s.completePage k v stream = finish { s with
        rx := { s.rx with contexts := contexts },
        store :=
          if o.refs = 0 ∧ ¬ (∃ n ∈ s.store.notices, n.key = k ∧ n.version = o.version) then
            { s.store with
              directory := superseded.filter fun q => !is o.version q,
              idleCells := s.store.idleCells ++ o.chain, freeCells := s.store.freeCells + o.height }
          else { s.store with directory := superseded } } o.version)

/-- The work on a completion notice (R20, R22, R23, R43): the entries that contain the key are worked in plate id order;
at the answer the notice is no longer outstanding, the record is freed when nothing is bound to it and it is SUPERSEDED or
not retained and no later notice of it is outstanding, and PAGE DONE is offered. With no notice outstanding nothing
happens. -/
def Obligations.CompletionNoticeWorked : Prop :=
  ∀ s : State, s.resetAsserted = false →
    (s.store.notices = [] → exec .completionNotice s = .next s.finish) ∧
    (∀ n ns, s.store.notices = n :: ns →
      let ids := (s.plates.map.filter fun e => e.positions.any fun q => decide (q.key = some n.key)).map fun e => e.id
      let w := ids.foldl (fun u p => u.workEntry n.key n.version p) s
      (w.store.find n.key n.version = none →
        exec .completionNotice s = .next (State.finish { w with store := { w.store with notices := w.store.notices.tail } })) ∧
      (∀ r, w.store.find n.key n.version = some r →
        let free : Bool := decide (r.refs = 0 ∧ (r.state = .superseded ∨ (r.state = .current ∧ r.retain = false)) ∧
          ¬ (∃ m ∈ w.store.notices.tail, m.key = n.key ∧ m.version = n.version))
        exec .completionNotice s = .next (State.finish (State.offer
          (.pageDone
            { key := n.key, version := n.version, width := r.width, height := r.height, bound := r.refs,
              superseded := n.superseded, overtaken := n.overtaken, kept := !free })
          { w with store :=
            if free then
              { w.store with
                notices := w.store.notices.tail,
                directory := w.store.directory.filter fun q => !decide (q.key = n.key ∧ q.version = n.version),
                idleCells := w.store.idleCells ++ r.chain, freeCells := w.store.freeCells + r.height }
            else { w.store with notices := w.store.notices.tail } }))))

/-! ### Imposition, builds and dispatch (chapters 2 and 3) -/

/-- SIZE LOAD (R27): refused RANGE outside its ranges; otherwise the code takes L and X, and the dispatch pass of R66 is
made before the reply. -/
def Obligations.SizeLoadDefinesCode : Prop :=
  ∀ (tag code l x : Nat) (s : State),
    let t : TaggedRequest := ⟨tag, .sizeLoad code l x⟩
    Ready s t →
    exec (.sizeLoad tag code l x) s = .next (
      if code ≤ 3 ∧ 32 ≤ l ∧ l ≤ 65535 ∧ 256 ≤ x ∧ x ≤ 65535 then
        (State.dispatchPass { s with plates := { s.plates with sizes := s.plates.sizes.set code (some ⟨l, x⟩) } }).answering
          t .ok []
      else s.answering t .range [])

/-- MAP LOAD (R29, R30): the six refusals in their order, each changing nothing; otherwise the entry is written with imaged
versions 0, generation 0 and the hold flag kept, and its build-need check is made (R38); when that makes a build READY, the
dispatch pass of R66 is made before the reply, by the pass that is owed (log 5). A position whose page number is 0 is BLANK
(Table 10.5). The entry goes in its place of plate id order (R26, R28), in place of an entry of the same plate id; no other
entry is touched. -/
def Obligations.MapLoadRefusedOrApplied : Prop :=
  (∀ (tag : Nat) (p : PlateId) (size cls affinity : Nat) (ps : List PosArgs) (s : State),
    let t : TaggedRequest := ⟨tag, .mapLoad p size cls affinity ps⟩
    let key : PosArgs → Option PageKey := fun q => if q.key.page = 0 then none else some q.key
    let keys := ps.filterMap key
    let holding : PageKey → Nat := fun k =>
      s.plates.map.countP fun e => decide (e.id ≠ p) && e.positions.any fun q => decide (q.key = some k)
    Ready s t →
    exec (.mapLoad tag p size cls affinity ps) s = .next (
      if ¬ (p.line ≤ 7 ∧ p.unit ≤ 11 ∧ p.face ≤ 1 ∧ p.across ≤ 3 ∧ size ≤ 3 ∧ cls ≤ 3 ∧ affinity ≤ 2 ∧
          (ps.length = 1 ∨ ps.length = 2 ∨ ps.length = 4) ∧
          ∀ q ∈ ps, (q.rotation = 0 ∨ q.rotation = 1) ∧ (q.key.page = 0 ∨ keyOk q.key = true)) then
        s.answering t .range []
      else
        match s.plates.sizes.getD size none with
        | none => s.answering t .range []
        | some z =>
          if ∃ q ∈ ps, q.key.page ≠ 0 ∧ (z.x ≤ q.x0 ∨ z.l ≤ q.y0) then s.answering t .range []
          else if ¬ keys.Nodup then s.answering t .range []
          else if ∃ b ∈ s.plates.builds, b.plate = p then s.answering t .inUse []
          else if ∃ k ∈ keys, 8 < holding k + 1 then s.answering t .limit []
          else if (∀ e ∈ s.plates.map, e.id ≠ p) ∧ 192 ≤ s.plates.map.length then s.answering t .full []
          else
            let e : MapEntry :=
              { id := p, size := size, cls := cls,
                affinity := if affinity = 0 then .any else if affinity = 1 then .a else .b,
                hold := match s.plates.map.find? fun e => decide (e.id = p) with
                  | some e => e.hold
                  | none => false
                positions := ps.map fun q => ⟨key q, decide (q.rotation = 1), q.x0, q.y0, 0⟩, generation := 0 }
            (State.needCheck p none
              { s with plates := { s.plates with map := putEntry e s.plates.map } }).answering t .ok [])) ∧
  (∀ (e : MapEntry) (m : List MapEntry),
    (m.Pairwise fun f g => plateBefore f.id g.id = true) →
    ((putEntry e m).Pairwise fun f g => plateBefore f.id g.id = true) ∧
      (∀ f, f ∈ putEntry e m ↔ f = e ∨ (f ∈ m ∧ f.id ≠ e.id)))

/-- MAP DELETE (R31): the three refusals in their order; otherwise the entry leaves the map and the pending list. -/
def Obligations.MapDeleteRefusedOrApplied : Prop :=
  ∀ (tag : Nat) (p : PlateId) (s : State),
    let t : TaggedRequest := ⟨tag, .mapDelete p⟩
    Ready s t →
    exec (.mapDelete tag p) s = .next (
      if ¬ (p.line ≤ 7 ∧ p.unit ≤ 11 ∧ p.face ≤ 1 ∧ p.across ≤ 3) then s.answering t .range []
      else if ∀ e ∈ s.plates.map, e.id ≠ p then s.answering t .notFound []
      else if ∃ b ∈ s.plates.builds, b.plate = p then s.answering t .inUse []
      else State.answering { s with plates := { s.plates with
        map := s.plates.map.filter fun e => decide (e.id ≠ p),
        pendingList := s.plates.pendingList.filter fun q => decide (q ≠ p) } } t .ok [])

/-- The build-need check of an entry (R33, R34, R36, R38, R40, R41, R57): in need with a free record, a build is created on
the lowest-numbered one, its positions bound to the CURRENT records of their keys (for the key of the notice being worked,
to the version it names, R20) and their counts raised; with no position WAITING it is READY and stands in the queue after
the builds of its class, and a dispatch pass is owed (R66, log 5); in need with the table full, the entry joins the tail of
the pending list; not in need, it leaves that list. Without an entry nothing happens. `State.workPending`, which other
statements name, works the pending list when a build record has become free (R42): the entries leave it, oldest first, each
with its build-need check, until a check creates a build or the list is empty. -/
def Obligations.BuildNeedCheck : Prop :=
  (∀ (p : PlateId) (work : Option (PageKey × Nat)) (s : State),
    let current : PageKey → Option PageRecord := fun k =>
      s.store.directory.find? fun r => decide (r.key = k) && decide (r.state = .current)
    let hasPlate : Prop := (∃ b ∈ s.plates.builds, b.plate = p ∧ b.cause = .none_) ∨
      ∃ it ∈ s.line.items, it.plate = p ∧ it.cause = .none_
    let used : Nat → Prop := fun n => ∃ b ∈ s.plates.builds, b.bid = n
    let others := s.plates.pendingList.filter fun q => decide (q ≠ p)
    (s.plates.map.find? (fun e => decide (e.id = p)) = none → s.needCheck p work = s) ∧
    (∀ e, s.plates.map.find? (fun e => decide (e.id = p)) = some e →
      let need : Prop := ¬ hasPlate ∧
        ∃ q ∈ e.positions, ∃ k, q.key = some k ∧ ∃ r, current k = some r ∧ q.imaged < r.version
      (¬ need → s.needCheck p work = { s with plates := { s.plates with pendingList := others } }) ∧
      (need → (∀ n < 32, used n) → s.needCheck p work = { s with plates := { s.plates with
        pendingList := if p ∈ s.plates.pendingList then s.plates.pendingList else s.plates.pendingList ++ [p] } }) ∧
      (∀ bid, need → bid < 32 → ¬ used bid → (∀ n < bid, used n) →
        let generation := (e.generation + 1) % 256
        let bindings : List Binding := e.positions.map fun q =>
          match q.key with
          | none => .blank
          | some k =>
            match current k with
            | none => .waiting
            | some r => if work.map Prod.fst = some k then .bound k ((work.map Prod.snd).getD 0) else .bound k r.version
        let b : Build :=
          { bid := bid, plate := p, generation := generation, state := if .waiting ∈ bindings then .open_ else .ready,
            cause := .none_, bindings := bindings, imager := none, press := none, fan := none, size := none }
        let u : State := { s with
          plates := { s.plates with
            map := s.plates.map.map fun f => if f.id = p then { f with generation := generation } else f,
            builds := insertBuild b s.plates.builds,
            pendingList := others },
          store := { s.store with
            directory := s.store.directory.map fun r =>
              { r with refs := r.refs + bindings.count (.bound r.key r.version) } } }
        s.needCheck p work =
          if .waiting ∈ bindings then u
          else
            let before := s.plates.queue.takeWhile fun n => decide (u.classOf n ≤ e.cls)
            { u with
              passOwed := true,
              plates := { u.plates with queue := before ++ bid :: s.plates.queue.drop before.length } }))) ∧
  (∀ (n : Nat) (s : State),
    let list := s.plates.pendingList
    let worked : Nat → State := fun k => (list.take k).foldl (fun u p => State.needCheck p none { u with plates := { u.plates with
      pendingList := u.plates.pendingList.filter fun q => decide (q ≠ p) } }) s
    n ≤ list.length → (∀ k ≤ n, (worked k).plates.builds.length = s.plates.builds.length) →
    (n = list.length → s.workPending = worked n) ∧
    (n < list.length → s.plates.builds.length < (worked (n + 1)).plates.builds.length → s.workPending = worked (n + 1)))

/-- PLATE HOLD, PLATE RELEASE, LINE HOLD and LINE RELEASE (R59, R60): their refusals; otherwise the hold flag of the entry,
or of the logical line, takes its value, and the dispatch pass of R66 is made before the reply. -/
def Obligations.HoldsAndReleases : Prop :=
  ∀ (tag line : Nat) (p : PlateId) (s : State),
    let onPlate : TaggedRequest → Bool → State := fun t hold =>
      if ¬ (p.line ≤ 7 ∧ p.unit ≤ 11 ∧ p.face ≤ 1 ∧ p.across ≤ 3) then s.answering t .range []
      else if ∀ e ∈ s.plates.map, e.id ≠ p then s.answering t .notFound []
      else (State.dispatchPass { s with plates := { s.plates with
        map := s.plates.map.map fun e => if e.id = p then { e with hold := hold } else e } }).answering t .ok []
    let onLine : TaggedRequest → Bool → State := fun t hold =>
      if 7 < line then s.answering t .range []
      else (State.dispatchPass { s with sched := { s.sched with
        lineHolds := s.sched.lineHolds.set line hold } }).answering t .ok []
    (Ready s ⟨tag, .plateHold p⟩ → exec (.plateHold tag p) s = .next (onPlate ⟨tag, .plateHold p⟩ true)) ∧
    (Ready s ⟨tag, .plateRelease p⟩ → exec (.plateRelease tag p) s = .next (onPlate ⟨tag, .plateRelease p⟩ false)) ∧
    (Ready s ⟨tag, .lineHold line⟩ → exec (.lineHold tag line) s = .next (onLine ⟨tag, .lineHold line⟩ true)) ∧
    (Ready s ⟨tag, .lineRelease line⟩ → exec (.lineRelease tag line) s = .next (onLine ⟨tag, .lineRelease line⟩ false))

/-- PLATE CANCEL (R52, R53): refused RANGE, or NOT_FOUND without a current plate; a current OPEN or READY build is removed
with its bindings given up, and the pending list is worked (R42); a dispatched one is retired CANCELLED and its imager told
(R123); a current item is retired CANCELLED. Where that work makes a build READY, the dispatch pass of R66 is made before the
reply, by the pass that is owed (log 5). -/
def Obligations.PlateCancelRetiresCurrentPlate : Prop :=
  ∀ (tag : Nat) (p : PlateId) (s : State),
    let t : TaggedRequest := ⟨tag, .plateCancel p⟩
    Ready s t →
    (plateOk p = false → exec (.plateCancel tag p) s = .next (s.answering t .range [])) ∧
    (plateOk p = true → s.currentBuild p = none → s.currentItem p = none →
      exec (.plateCancel tag p) s = .next (s.answering t .notFound [])) ∧
    (∀ b, plateOk p = true → s.currentBuild p = some b → b.state = .open_ ∨ b.state = .ready →
      exec (.plateCancel tag p) s = .next ((State.workPending { s with
        plates := { s.plates with
          builds := s.plates.builds.filter fun c => decide (c.bid ≠ b.bid),
          queue := s.plates.queue.filter fun n => decide (n ≠ b.bid) },
        store := s.store.dropRefs b.bindings }).answering t .ok [])) ∧
    (∀ b i, plateOk p = true → s.currentBuild p = some b → b.state ≠ .open_ → b.state ≠ .ready → b.imager = some i →
      exec (.plateCancel tag p) s = .next ((State.retireHeld i { s with plates := { s.plates with
        builds := s.plates.builds.map fun c => if c.bid = b.bid then { c with cause := .cancelled } else c
        } }).answering t .ok [])) ∧
    (∀ it, plateOk p = true → s.currentBuild p = none → s.currentItem p = some it →
      exec (.plateCancel tag p) s = .next (State.answering { s with line := { s.line with
        items := s.line.items.map fun j =>
          if j.order = it.order then (if j.cause = .none_ then { j with cause := .cancelled } else j) else j } } t .ok []))

/-- REPLATE (R54): refused RANGE, or NOT_FOUND for a plate id without an entry; otherwise, for the entry named or for every
entry of the logical line in plate id order, the imaged versions become 0 and the build-need check is made; where that makes
builds READY, the single dispatch pass of R66 is made before the reply, by the pass that is owed (log 5). -/
def Obligations.ReplateClearsImagedVersions : Prop :=
  ∀ (tag form : Nat) (p : PlateId) (s : State),
    let t : TaggedRequest := ⟨tag, .replate form p⟩
    let again : List PlateId → State := fun ids => ids.foldl (fun u q => State.needCheck q none { u with plates := { u.plates with
      map := u.plates.map.map fun e =>
        if e.id = q then { e with positions := e.positions.map fun c => { c with imaged := 0 } } else e } }) s
    Ready s t →
    exec (.replate tag form p) s = .next (
      if form = 0 then
        if ¬ (p.line ≤ 7 ∧ p.unit ≤ 11 ∧ p.face ≤ 1 ∧ p.across ≤ 3) then s.answering t .range []
        else if ∀ e ∈ s.plates.map, e.id ≠ p then s.answering t .notFound []
        else (again [p]).answering t .ok []
      else if form = 1 then
        if 7 < p.line then s.answering t .range []
        else (again ((s.plates.map.filter fun e => decide (e.id.line = p.line)).map fun e => e.id)).answering t .ok []
      else s.answering t .range [])

/-- LINE ASSIGN and STOCK SET (R61, R63): their refusals in order; otherwise the assignment of the line, or the stock of
the imager, takes its value, and the dispatch pass of R66 is made before the reply. -/
def Obligations.LineAssignAndStockSet : Prop :=
  ∀ (tag line press size count : Nat) (i : Imager) (s : State),
    let assign : TaggedRequest := ⟨tag, .lineAssign line press⟩
    let stock : TaggedRequest := ⟨tag, .stockSet (imagerCode i) size count⟩
    let state := (s.chan.get i).seq.state
    (Ready s assign → exec (.lineAssign tag line press) s = .next (
      if 7 < line ∨ (5 < press ∧ press ≠ 255) then s.answering assign .range []
      else if press ≤ 5 ∧ s.punch.presses.getD press none = none then s.answering assign .notFound []
      else (State.dispatchPass { s with sched := { s.sched with
        assignment := s.sched.assignment.set line (if press ≤ 5 then some press else none) } }).answering assign .ok [])) ∧
    (Ready s stock → exec (.stockSet tag (imagerCode i) size count) s = .next (
      if 3 < size ∨ 255 < count then s.answering stock .range []
      else if state ≠ .idle ∧ state ≠ .fault then s.answering stock .busy []
      else (State.dispatchPass { s with sched := { s.sched with
        stock := s.sched.stock.set i ⟨size, count⟩ } }).answering stock .ok [])) ∧
    (∀ n, 2 ≤ n → Ready s ⟨tag, .stockSet n size count⟩ →
      exec (.stockSet tag n size count) s = .next (s.answering ⟨tag, .stockSet n size count⟩ .range []))

/-- A dispatch pass (R64 to R68, R114): imager A, then imager B. An IDLE imager takes the first build in queue order that is
eligible: READY, not held, its line not held and assigned, its affinity and the stock admitting it, and the plate fitting
the drum. Dispatch binds press, fan-out and size, takes one plate of the stock, raising STOCK with the last one, and puts
the imager in LOADING with its job started. After an event's own effects one pass is made when a pass is owed, and none
otherwise; every step makes the pass that its event calls for, and leaves none owed (log 5). The job (R74, R76, R79, R80, R83,
R85) holds N = ceil(L / 32) and, for each bound position, the page's width, chain, W and H, the target line count T, V and
the CLIPPED flag; it starts at swath 0, and its first fills start at once (R87). -/
def Obligations.DispatchPass : Prop :=
  (∀ s : State, s.resetAsserted = false →
    exec .dispatch s = .next (State.finish { (s.passFor .a).passFor .b with passOwed := false })) ∧
  (∀ s : State, (s.passOwed = false → s.finish = s.pump) ∧
    (s.passOwed = true → s.finish = State.pump { (s.passFor .a).passFor .b with passOwed := false })) ∧
  (∀ s t : State, s.passOwed = false → step s = .next t → t.passOwed = false) ∧
  (∀ (i : Imager) (b : Build) (e : MapEntry) (s : State),
    s.plates.builds.find? (fun c => decide (c.bid = b.bid)) = some b →
    s.plates.map.find? (fun f => decide (f.id = b.plate)) = some e →
    (s.eligible i b.bid = true ↔
      b.bid ∈ s.plates.queue ∧ e.hold = false ∧ s.sched.lineHolds.getD b.plate.line false = false ∧
      s.sched.assignment.getD b.plate.line none ≠ none ∧
      (e.affinity = .any ∨ (e.affinity = .a ∧ i = .a) ∨ (e.affinity = .b ∧ i = .b)) ∧
      0 < (s.sched.stock.get i).count ∧ (s.sched.stock.get i).size = e.size ∧
      ∃ z, s.plates.sizes.getD e.size none = some z ∧
        (s.chan.get i).settings.g + z.x ≤ (s.chan.get i).settings.pRev)) ∧
  (∀ (i : Imager) (s : State),
    ((s.chan.get i).seq.state ≠ .idle ∨ ∀ n ∈ s.plates.queue, s.eligible i n = false) → s.passFor i = s) ∧
  (∀ (i : Imager) (b : Build) (e : MapEntry) (press : Nat) (z : Size) (s : State) (before after : List Nat),
    (s.chan.get i).seq.state = .idle → s.plates.queue = before ++ b.bid :: after →
    (∀ n ∈ before, s.eligible i n = false) → s.eligible i b.bid = true →
    s.plates.builds.find? (fun c => decide (c.bid = b.bid)) = some b →
    s.plates.map.find? (fun f => decide (f.id = b.plate)) = some e →
    s.sched.assignment.getD b.plate.line none = some press → s.plates.sizes.getD e.size none = some z →
    let fan := match s.punch.presses.getD press none with
      | some entry => entry.fans.getD b.plate.across 0
      | none => 0
    let c := s.chan.get i
    let stock := s.sched.stock.get i
    let plates : Plates := { s.plates with
      queue := s.plates.queue.filter fun n => decide (n ≠ b.bid),
      builds := s.plates.builds.map fun d => if d.bid = b.bid then
        { d with imager := some i, press := some press, fan := some fan, size := some z, state := .assigned } else d }
    let started := c.composer.start (jobOf s.store z fan e.positions b.bindings)
    s.passFor i = { s with
      plates := plates,
      sched := { s.sched with stock := s.sched.stock.set i ⟨stock.size, stock.count - 1⟩ },
      reports :=
        if stock.count = 1 then
          s.reports.raise (match i with
            | .a => .stockA
            | .b => .stockB)
            (.stock ⟨i, stock.size, b.plate, b.generation, State.waitingBuilds { s with plates := plates } i⟩) s.clock.time
        else s.reports,
      chan := s.chan.set i { c with
        out := { c.out with load := true },
        seq := { c.seq with
          state := .loading, build := some b.bid, retired := false,
          loadDeadline := some ((s.clock.time + s.link.timing.load) % 4294967296),
          skipRun := 0, skipped := 0, steps := 0, written := 0 },
        composer := started.1 },
      store := if started.2 then
        { s.store with port := s.store.port.request (match i with
          | .a => .a
          | .b => .b) } else s.store }) ∧
  (∀ (st : Store) (z : Size) (f : Int) (qs : List Position) (bs : List Binding) (n : Nat) (q : Position) (b : Binding),
    qs[n]? = some q → bs[n]? = some b →
    let j := jobOf st z f qs bs
    j.l = z.l ∧ j.x = z.x ∧ j.fan = f ∧ j.n = (z.l + 31) / 32 ∧
    (b = .waiting ∨ b = .blank → j.positions[n]? = some none) ∧
    (∀ k v r, b = .bound k v → st.find k v = some r →
      let w := 256 * r.width
      let t := targetLines (64 * r.height) f
      j.positions[n]? = some (some
        { width := r.width, chain := r.chain, rotated := q.rotated, x0 := q.x0, y0 := q.y0, w := w, h := 64 * r.height,
          t := t, v := if q.x0 < z.x then min w (z.x - q.x0) else 0,
          clipped := decide (z.l < q.y0 + t ∨ z.x < q.x0 + w) }))) ∧
  (∀ (c : Composer) (j : Job), c.start j = ({ c with job := some j, nextFill := 0, nextEmit := 0 } : Composer).startFills)

/-- The work of a completion notice on one entry (R43 to R46): a current OPEN or READY build is rebound in place, its older
and its WAITING bindings of the key becoming the new version, with the count of the record left lowered, and that record
freed when R22 holds, and the count of the new one raised by 1; an OPEN build with nothing left WAITING becomes READY; a
dispatched one is retired SUPERSEDED and its imager told (R123); a current item that carries the key is retired SUPERSEDED;
then the build-need check is made. -/
def Obligations.NoticeWorksEntry : Prop :=
  ∀ (k : PageKey) (v : Nat) (p : PlateId) (e : MapEntry) (s : State),
    s.plates.map.find? (fun f => decide (f.id = p)) = some e →
    let carries : Item → Bool := fun it => it.bindings.any fun b => match b with
      | .bound k' _ => decide (k' = k)
      | _ => false
    let thenItem : State → State := fun u =>
      State.needCheck p (some (k, v)) (match u.currentItem p with
        | some it => if carries it then { u with line := { u.line with items := u.line.items.map fun j =>
            if j.order = it.order then (if j.cause = .none_ then { j with cause := .superseded } else j) else j } } else u
        | none => u)
    (s.currentBuild p = none → s.workEntry k v p = thenItem s) ∧
    (∀ b i, s.currentBuild p = some b → b.state ≠ .open_ → b.state ≠ .ready → b.imager = some i →
      s.workEntry k v p = thenItem (State.retireHeld i { s with plates := { s.plates with
        builds := s.plates.builds.map fun c => if c.bid = b.bid then { c with cause := .superseded } else c } })) ∧
    (∀ b, s.currentBuild p = some b → b.state = .open_ ∨ b.state = .ready →
      let r := rebindPositions k v e.positions b.bindings s.store
      let ready := b.state = .open_ ∧ Binding.waiting ∉ r.1
      let u : State := { s with
        store := r.2,
        plates := { s.plates with builds := s.plates.builds.map fun c =>
          if c.bid = b.bid then { c with bindings := r.1, state := if ready then .ready else c.state } else c } }
      s.workEntry k v p = thenItem (if ready then u.joinQueue b.bid else u) ∧
        ∀ (n : Nat) (q : Position) (old : Binding), e.positions[n]? = some q → b.bindings[n]? = some old → r.1[n]? = some (
          if q.key ≠ some k then old
          else match old with
            | .waiting => .bound k v
            | .bound k' w => if w < v then .bound k v else .bound k' w
            | .blank => .blank)) ∧
    (∀ (bs : List Binding) (st : Store),
      let raised : Store → Store := fun u => { u with directory := u.directory.map fun r =>
        if r.key = k ∧ r.version = v then { r with refs := r.refs + 1 } else r }
      ((∀ q ∈ e.positions, q.key ≠ some k) → (rebindPositions k v e.positions bs st).2 = st) ∧
      (∀ (n : Nat) (q : Position) (old : Binding), e.positions[n]? = some q → bs[n]? = some old → q.key = some k →
        (∀ (m : Nat) (q' : Position), m ≠ n → e.positions[m]? = some q' → q'.key ≠ some k) →
        (rebindPositions k v e.positions bs st).2 = match old with
          | .waiting => raised st
          | .bound _ w => if w < v then raised (st.dropRefs [.bound k w]) else st
          | .blank => st))

/-! ### Swaths, drum and exposure (chapters 4 and 6) -/

/-- Fan-out compensation (R76 to R78), for a page of 1 to 512 bands and a fan-out of -2000 to 2000 ppm: T is H plus H × f /
1,000,000 rounded to the nearest integer; the line index begins at the first and ends at the last page line, stays inside
the page, moves by 0 or 1 line with exactly T - H repeats when T > H, by 1 or 2 lines with exactly H - T lines passed over
when T < H, by 1 line when T = H, and is mirror-symmetric. The source line walks that index at rotation 0, and its mirror H - 1 - s(k) at
rotation 180, from the page's last line to its first, never rising (R78). -/
def Obligations.CentredLineIndex : Prop :=
  ∀ (bands : Nat) (f : Int), 1 ≤ bands → bands ≤ 512 → -2000 ≤ f → f ≤ 2000 →
    let h := 64 * bands
    let t := targetLines h f
    let delta : Int := (t : Int) - h
    (2 * |1000000 * delta - h * f| ≤ 1000000 ∧ |delta| ≤ 66) ∧
    lineIndex h t 0 = 0 ∧ lineIndex h t (t - 1) = h - 1 ∧
    (∀ k < t, lineIndex h t k < h) ∧
    (t = h → ∀ k < t, lineIndex h t k = k) ∧
    (h < t → (∀ k, k + 1 < t → lineIndex h t (k + 1) = lineIndex h t k ∨ lineIndex h t (k + 1) = lineIndex h t k + 1) ∧
      (List.range (t - 1)).countP (fun k => decide (lineIndex h t (k + 1) = lineIndex h t k)) = t - h) ∧
    (t < h → (∀ k, k + 1 < t → lineIndex h t (k + 1) = lineIndex h t k + 1 ∨ lineIndex h t (k + 1) = lineIndex h t k + 2) ∧
      (List.range (t - 1)).countP (fun k => decide (lineIndex h t (k + 1) = lineIndex h t k + 2)) = h - t) ∧
    (∀ k < t, lineIndex h t (t - 1 - k) + lineIndex h t k = if (2 * k + 1) * h % (2 * t) = 0 then h else h - 1) ∧
    (∀ k, sourceLine false h t k = lineIndex h t k ∧ sourceLine true h t k = h - 1 - lineIndex h t k) ∧
    (∀ k m, k ≤ m → m < t → sourceLine false h t k ≤ sourceLine false h t m ∧
      sourceLine true h t m ≤ sourceLine true h t k ∧ sourceLine true h t k < h) ∧
    sourceLine true h t 0 = h - 1 ∧ sourceLine true h t (t - 1) = 0

/-- IMAGER SET and IMAGER CLEAR (R110, R112, R113, R127): the refusals in their order; otherwise the settings are replaced
with E and W_t computed from them, in IDLE with a dispatch pass before the reply; or the fault is cleared, the imager is
IDLE, and the pass is made before the reply. -/
def Obligations.ImagerSetAndClear : Prop :=
  ∀ (tag : Nat) (i : Imager) (a : SettingArgs) (s : State),
    let set : TaggedRequest := ⟨tag, .imagerSet (imagerCode i) a⟩
    let clear : TaggedRequest := ⟨tag, .imagerClear (imagerCode i)⟩
    let c := s.chan.get i
    let e := a.pRev * 2 * (a.d + 1)
    let w := e * a.tol / 4096
    (Ready s set → exec (.imagerSet tag (imagerCode i) a) s = .next (
      if ¬ (a.d ≤ 4095 ∧ 1 ≤ a.pRev ∧ a.pRev ≤ 65535 ∧ 1 ≤ a.c ∧ a.c ≤ 16777215 ∧ (a.mult = 1 ∨ a.mult = 2 ∨ a.mult = 4) ∧
          1 ≤ a.tol ∧ a.tol ≤ 64 ∧ a.g ≤ 65535 ∧ 1 ≤ a.skipLimit ∧ a.skipLimit ≤ 7) then s.answering set .range []
      else if 16777215 < e + w then s.answering set .range []
      else if c.seq.state ≠ .idle ∧ c.seq.state ≠ .fault then s.answering set .busy []
      else
        let t : State := { s with chan := s.chan.set i { c with
          settings := ⟨a.d, a.pRev, a.c, a.mult, a.tol, a.g, a.skipLimit, e, w⟩ } }
        (if c.seq.state = .idle then t.dispatchPass else t).answering set .ok [])) ∧
    (Ready s clear → exec (.imagerClear tag (imagerCode i)) s = .next (
      if c.seq.state ≠ .fault then s.answering clear .badState []
      else (State.dispatchPass { s with chan := s.chan.set i { c with
        seq := { c.seq with state := .idle, fault := none } } }).answering clear .ok [])) ∧
    (∀ n, 2 ≤ n →
      (Ready s ⟨tag, .imagerSet n a⟩ →
        exec (.imagerSet tag n a) s = .next (s.answering ⟨tag, .imagerSet n a⟩ .range [])) ∧
      (Ready s ⟨tag, .imagerClear n⟩ →
        exec (.imagerClear tag n) s = .next (s.answering ⟨tag, .imagerClear n⟩ .range [])))

/-- A CLAMP arrival (R114, R116): in LOADING, LOAD is released and the load deadline removed, and the imager enters SPINUP
with DRUM_RUN driven, the first-index flag set, the valid run 0 and the spin-up deadline, or, retired, ends the exposure
STOPPED; in every other state it is disregarded. -/
def Obligations.ClampArrival : Prop :=
  ∀ (i : Imager) (x : Input) (p : PendingChange) (s : State), s.resetAsserted = false →
    accepting s (match i with
      | .a => 0
      | .b => 1) x p → x.raw = x.rising →
    let t := s.accepted (match i with
      | .a => 0
      | .b => 1) x
    let c := s.chan.get i
    (c.seq.state ≠ .loading → exec (.clampArrival i) s = .next t.finish) ∧
    (c.seq.state = .loading → c.seq.retired = false → exec (.clampArrival i) s = .next (State.finish { t with
      chan := s.chan.set i { c with
        out := { c.out with load := false, drumRun := true },
        drum := { c.drum with first := true },
        seq := { c.seq with
          state := .spinup, loadDeadline := none, validRun := 0,
          spinDeadline := some ((s.clock.time + s.link.timing.spinup) % 4294967296) } } })) ∧
    (c.seq.state = .loading → c.seq.retired = true → exec (.clampArrival i) s = .next (State.finish (State.endExposure i .stopped { t with
      chan := s.chan.set i { c with
        out := { c.out with load := false },
        seq := { c.seq with loadDeadline := none } } })))

/-- The load and the spin-up deadline reached (R50, R58, R115, R117, R127): the imager enters FAULT with its outputs
released, its job ended, no build and its fault record, and raises its IMAGER condition; its current build returns to
READY before the builds of its class, and a dispatch pass is owed (R66, log 5); its retired build is removed. That the
entry into FAULT clears emission pending and step due is the model's choice (log 38). -/
def Obligations.LoadAndSpinupTimeouts : Prop :=
  ∀ (i : Imager) (bid : Nat) (b : Build) (d : Nat) (s : State), s.resetAsserted = false →
    let c := s.chan.get i
    c.seq.build = some bid → s.plates.builds.find? (fun e => decide (e.bid = bid)) = some b → reached s.clock.time d →
    let outcome : FaultCause → State := fun cause =>
      let f : FaultRecord := { cause := cause, plate := some (b.plate, b.generation), left := c.seq.state, time := s.clock.time }
      let t : State := { s with
        chan := s.chan.set i { c with
          composer := c.composer.ended,
          out := { drumRun := false, load := false, eject := false, step := false, stepStart := c.out.stepStart },
          seq := { c.seq with
            state := .fault, build := none, loadDeadline := none, spinDeadline := none, revolution := none,
            emissionPending := false, stepDue := false, fault := some f } },
        store := { s.store with
          port := s.store.port.withdraw (match i with
            | .a => .a
            | .b => .b) },
        reports := s.reports.raise (match i with
          | .a => .imagerA
          | .b => .imagerB) (.imager f) s.clock.time }
      let u : State := { t with plates := { t.plates with
        builds := t.plates.builds.map fun e => if e.bid = bid then
          { e with state := .ready, imager := none, press := none, fan := none, size := none } else e } }
      let before := u.plates.queue.takeWhile fun n => decide (u.classOf n < u.classOf bid)
      if b.cause = .none_ then
        { u with
          passOwed := true, plates := { u.plates with queue := before ++ bid :: u.plates.queue.drop before.length } }
      else State.workPending { t with
        plates := { t.plates with
          builds := t.plates.builds.filter fun e => decide (e.bid ≠ b.bid),
          queue := t.plates.queue.filter fun n => decide (n ≠ b.bid) },
        store := t.store.dropRefs b.bindings }
    (c.seq.state = .loading → c.seq.loadDeadline = some d →
      exec (.loadTimeout i) s = .next (outcome .loadTimeout).finish) ∧
    (c.seq.state = .spinup → c.seq.spinDeadline = some d →
      exec (.spinupTimeout i) s = .next (outcome .spinupTimeout).finish)

/-- An index (R107, R108, R110, R111): in every state the net count and the period are latched, both counters and the
reverse and first-index flags are cleared, and the revolution is judged, by the first reason of FIRST, REVERSE, COUNT and
PERIOD that applies; in SPINUP a valid revolution raises the valid run and an invalid one clears it, and the fourth enters
EXPOSING, whose first revolution begins at once (R116); in EXPOSING the index is taken by R118; elsewhere it is
disregarded. The model's choices are that SPINUP completes with emission pending and step due clear (log 38), and that the
swath just written stays counted when its step falls due during the pulse of the previous one (R119, log 37). -/
def Obligations.IndexJudgesRevolution : Prop :=
  ∀ (i : Imager) (s : State), s.resetAsserted = false →
    let c := s.chan.get i
    let d := c.drum
    let e := c.settings.e
    let w := c.settings.wt
    let judgment : Option Reason :=
      if d.first = true then some .first
      else if d.reverse = true then some .reverse
      else if d.position ≠ c.settings.c then some .count
      else if d.period = 16777215 ∨ d.period < e - w ∨ e + w < d.period then some .period
      else none
    let drum : Drum :=
      { position := 0, period := 0, latch := d.period, net := d.position, reverse := false, first := false,
        judgment := judgment, phase := d.phase }
    let t : State := { s with chan := s.chan.set i { c with drum := drum } }
    let run := if judgment = none then c.seq.validRun + 1 else 0
    (c.seq.state ≠ .spinup → c.seq.state ≠ .exposing → exec (.index i) s = .next t.finish) ∧
    (c.seq.state = .spinup → run < 4 → exec (.index i) s = .next (State.finish { s with
      chan := s.chan.set i { c with drum := drum, seq := { c.seq with validRun := run } } })) ∧
    (∀ bid, c.seq.state = .spinup → 4 ≤ run → c.seq.build = some bid →
      exec (.index i) s = .next (State.finish (State.writeOrSkip i true { s with
        chan := s.chan.set i { c with
          drum := drum,
          seq := { c.seq with
            validRun := run, state := .exposing, spinDeadline := none, revolution := none, emissionPending := false,
            stepDue := false } },
        plates := { s.plates with builds := s.plates.builds.map fun b =>
          if b.bid = bid then { b with state := .exposing } else b } }))) ∧
    (c.seq.state = .exposing → exec (.index i) s = .next (State.finish (
      if c.seq.emissionPending = true then t.endExposure i .truncated
      else if c.seq.stepDue = false then t.writeOrSkip i (judgment = none)
      else if c.out.step = true then t.endExposure i .truncated
      else State.writeOrSkip i (judgment = none) { s with chan := s.chan.set i { c with
        drum := drum,
        out := { c.out with step := true, stepStart := s.clock.ref },
        seq := { c.seq with stepDue := false, steps := c.seq.steps + 1 } } })))

/-- How a revolution of EXPOSING begins (R89, R118, R122): after a valid revolution with the next swath's buffer FULL it
writes, the buffer becoming EMITTING and the skip run 0; otherwise it is skipped, and the skip that brings the skip run to
the skip limit ends the exposure. -/
def Obligations.RevolutionWritesOrSkips : Prop :=
  ∀ (i : Imager) (valid : Bool) (s : State),
    let c := s.chan.get i
    let full : Buffer → Prop := fun b => b.state = .full ∧ b.swath = c.composer.nextEmit
    let skipped : State := { s with chan := s.chan.set i { c with seq := { c.seq with
      revolution := some .skipped, skipRun := c.seq.skipRun + 1,
      skipped := if c.seq.skipped < 65535 then c.seq.skipped + 1 else c.seq.skipped } } }
    let writing : Nat → Composer → State := fun n composer => { s with chan := s.chan.set i { c with
      composer := composer, seq := { c.seq with revolution := some (.writing n), emissionPending := true, skipRun := 0 } } }
    (valid = true → full c.composer.buf0 →
      s.writeOrSkip i valid = writing 0 { c.composer with buf0 := { c.composer.buf0 with state := .emitting } }) ∧
    (valid = true → ¬ full c.composer.buf0 → full c.composer.buf1 →
      s.writeOrSkip i valid = writing 1 { c.composer with buf1 := { c.composer.buf1 with state := .emitting } }) ∧
    (valid = false ∨ (¬ full c.composer.buf0 ∧ ¬ full c.composer.buf1) →
      s.writeOrSkip i valid =
        if c.settings.skipLimit ≤ c.seq.skipRun + 1 then skipped.endExposure i .skipLimit else skipped)

/-- The end of an emission (R89, R109, R120), (G + X) × 2 × (D + 1) reference ticks after the index: the swath counts as
written, its buffer is FREE, and a fill may start (R87); the last swath ends the exposure COMPLETE, a retired build STOPPED,
and otherwise a carriage step is due. That the last swath of a retired build ends COMPLETE is the model's choice (log 33).
Before that tick, or with no emission pending, nothing happens. -/
def Obligations.EmissionEnds : Prop :=
  ∀ (i : Imager) (s : State), s.resetAsserted = false →
    let c := s.chan.get i
    (∀ n j, c.seq.state = .exposing → c.seq.emissionPending = true → c.seq.revolution = some (.writing n) →
      c.composer.job = some j → (c.settings.g + j.x) * (2 * (c.settings.d + 1)) ≤ c.drum.period →
      let freed : Composer := { c.composer with
        nextEmit := c.composer.nextEmit + 1,
        buf0 := if n = 0 then { c.composer.buf0 with state := .free } else c.composer.buf0,
        buf1 := if n = 0 then c.composer.buf1 else { c.composer.buf1 with state := .free } }
      let r := freed.startFills
      let t : Bool → State := fun due => { s with
        chan := s.chan.set i { c with
          composer := r.1,
          seq := { c.seq with emissionPending := false, written := c.seq.written + 1, stepDue := due || c.seq.stepDue } },
        store := if r.2 then { s.store with
          port := s.store.port.request (match i with
            | .a => .a
            | .b => .b) } else s.store }
      exec (.emissionEnd i) s = .next (State.finish (
        if c.composer.nextEmit + 1 = j.n then (t false).endExposure i .complete
        else if c.seq.retired = true then (t false).endExposure i .stopped
        else t true))) ∧
    (∀ n j, c.seq.emissionPending = false ∨
        (c.seq.revolution = some (.writing n) ∧ c.composer.job = some j ∧
          c.drum.period < (c.settings.g + j.x) * (2 * (c.settings.d + 1))) →
      exec (.emissionEnd i) s = .next s.finish)

/-- The end of a carriage step pulse, 4,800 reference ticks after it began (R102, R119), and the saturation of the period
counter in EXPOSING, which ends the exposure STALLED (R108, R118). Otherwise nothing happens. -/
def Obligations.CarriagePulseAndSaturation : Prop :=
  ∀ (i : Imager) (s : State), s.resetAsserted = false →
    let c := s.chan.get i
    exec (.carriagePulseEnd i) s = .next (State.finish (
      if c.out.step = true ∧ c.out.stepStart + 4800 ≤ s.clock.ref then
        { s with chan := s.chan.set i { c with out := { c.out with step := false } } }
      else s)) ∧
    exec (.periodSaturation i) s = .next (State.finish (
      if c.seq.state = .exposing ∧ c.drum.period = 16777215 then s.endExposure i .stalled else s))

/-- The end of an exposure (R49, R124, R125): DRUM_RUN released, the job ended and its waiting request withdrawn, the
build EXITING, and FAULTY with a build-need check when the end is SKIP_LIMIT, TRUNCATED or STALLED and the build was
current; the imager in EXIT_WAIT with its exit request offered, and PLATE EXPOSED offered. A carriage step pulse in
progress runs on, by the choice of log 34, and emission pending is cleared at every end, by that of log 38. When the build
that an imager holds is retired (R123, `State.retireHeld`), the retired flag is set, and the exposure ends STOPPED at once
in SPINUP, and in EXPOSING with no emission pending; in LOADING, in EXPOSING with an emission pending and in EXIT_WAIT
nothing else happens. -/
def Obligations.ExposureEnds : Prop :=
  (∀ (i : Imager) (kind : EndKind) (bid : Nat) (b : Build) (s : State),
    let c := s.chan.get i
    c.seq.build = some bid → s.plates.builds.find? (fun e => decide (e.bid = bid)) = some b →
    let faulty : Prop := kind ≠ .complete ∧ kind ≠ .stopped ∧ b.cause = .none_
    let cause : Cause := if faulty then .faulty else b.cause
    let u : State := { s with
      chan := s.chan.set i { c with composer := c.composer.ended, out := { c.out with drumRun := false } },
      store := { s.store with
        port := s.store.port.withdraw (match i with
          | .a => .a
          | .b => .b) },
      plates := { s.plates with builds := s.plates.builds.map fun e =>
        if e.bid = bid then { e with state := .exiting, cause := if faulty then .faulty else e.cause } else e } }
    let v := if faulty then u.needCheck b.plate none else u
    s.endExposure i kind = { v with
      chan := v.chan.set i { v.chan.get i with seq := { c.seq with
        state := .exitWait, loadDeadline := none, spinDeadline := none, revolution := none, emissionPending := false,
        stepDue := false } },
      line := { v.line with merge := { v.line.merge with
        requests := v.line.merge.requests ++ [⟨i, v.classOfPlate b.plate⟩] } },
      reports := v.reports.offer (.plateExposed
        { plate := b.plate, generation := b.generation, imager := i, kind := kind, cause := cause,
          count := match c.composer.job with
            | some j => j.n
            | none => 0
          written := c.seq.written, skipped := c.seq.skipped,
          clipped := match c.composer.job with
            | some j => j.clippedFlags
            | none => []
          time := s.clock.time }) s.clock.time }) ∧
  (∀ (i : Imager) (s : State),
    let q := (s.chan.get i).seq
    let told : State := { s with chan := s.chan.set i { s.chan.get i with seq := { q with retired := true } } }
    (q.state = .spinup ∨ (q.state = .exposing ∧ q.emissionPending = false) →
      s.retireHeld i = told.endExposure i .stopped) ∧
    (q.state = .loading ∨ (q.state = .exposing ∧ q.emissionPending = true) ∨ q.state = .exitWait → s.retireHeld i = told))

/-- A sample of the phase lines (R106, R107): forward motion steps the pair through 00, 10, 11, 01; a reverse transition
sets the reverse flag; the transitions that the multiplier counts change the position counter by 1, modulo 2 to the power
24; a double change counts nothing. -/
def Obligations.EncoderTransition : Prop :=
  ∀ (i : Imager) (new : Phase) (s : State), s.resetAsserted = false →
    let c := s.chan.get i
    let d := c.drum
    let place : Phase → Nat := fun ph => if ph.p then (if ph.q then 2 else 1) else (if ph.q then 3 else 0)
    let counted : Bool :=
      if c.settings.mult = 4 then true
      else if c.settings.mult = 2 then decide (d.phase.p ≠ new.p)
      else decide (place d.phase + place new = 1)
    let drum : Drum :=
      if place new = (place d.phase + 1) % 4 then
        { d with phase := new, position := if counted then (d.position + 1) % 16777216 else d.position }
      else if place d.phase = (place new + 1) % 4 then
        { d with phase := new, reverse := true, position := if counted then (d.position + 16777215) % 16777216 else d.position }
      else { d with phase := new }
    exec (.encoderTransition i new) s = .next (State.finish { s with chan := s.chan.set i { c with drum := drum } })

/-! ### Loaded tables (chapters 5, 7 to 10) -/

/-- WINDOW LOAD, TIMING LOAD and REPORT MASK (R134, R192, R193): refused RANGE outside the ranges, a minimum above its
maximum among them; otherwise the entry of the Line Window Table, the merge spacing, the entry of the Timing Table or the
mask level takes its value. -/
def Obligations.WindowTimingAndMaskLoaded : Prop :=
  ∀ (tag entry lo hi v level : Nat) (s : State),
    let window : TaggedRequest := ⟨tag, .windowLoad entry lo hi⟩
    let timing : TaggedRequest := ⟨tag, .timingLoad entry v⟩
    let mask : TaggedRequest := ⟨tag, .reportMask level⟩
    let g := s.link.timing
    (Ready s window → exec (.windowLoad tag entry lo hi) s = .next (
      if 8 < entry ∨ hi = 0 ∨ 65535 < hi ∨ (entry ≠ 8 ∧ hi < lo) then s.answering window .range []
      else if entry = 8 then
        State.answering { s with line := { s.line with table := { s.line.table with spacing := hi } } } window .ok []
      else State.answering { s with line := { s.line with table := { s.line.table with
        kinds := s.line.table.kinds.set entry ⟨lo, hi⟩ } } } window .ok [])) ∧
    (Ready s timing → exec (.timingLoad tag entry v) s = .next (
      if 4 < entry ∨ v = 0 ∨ 65535 < v ∨ (entry = 0 ∧ 60000 < v) then s.answering timing .range []
      else State.answering { s with link := { s.link with timing :=
        if entry = 0 then { g with receive := v }
        else if entry = 1 then { g with load := v }
        else if entry = 2 then { g with spinup := v }
        else if entry = 3 then { g with die := v }
        else { g with bend := v } } } timing .ok [])) ∧
    (Ready s mask → exec (.reportMask tag level) s = .next (
      if 4 < level then s.answering mask .range []
      else State.answering { s with reports := { s.reports with mask := level } } mask .ok []))

/-- PRESS SET, PATTERN LOAD, PROFILE LOAD and CART LAYOUT (R157, R158, R159, R173): their refusals in order; otherwise the
press, pattern or profile is defined with the values of the request, or the cart takes its layout and is empty. A pattern
or profile in the station's copy is not touched. That PROFILE LOAD codes a flag 0 for off and 1 for on is the model's choice
(log 15). -/
def Obligations.StationTablesLoaded : Prop :=
  ∀ (tag n a b : Nat) (fans : List Int) (dies : List Nat) (s : State),
    let press : TaggedRequest := ⟨tag, .pressSet n a b fans⟩
    let pattern : TaggedRequest := ⟨tag, .patternLoad n dies⟩
    let profile : TaggedRequest := ⟨tag, .profileLoad n a b⟩
    let layout : TaggedRequest := ⟨tag, .cartLayout n a b⟩
    (Ready s press → exec (.pressSet tag n a b fans) s = .next (
      if 5 < n ∨ 15 < a ∨ 7 < b ∨ ∃ f ∈ fans, f < -2000 ∨ 2000 < f then s.answering press .range []
      else if s.punch.patterns.getD a none = none ∨ s.bend.profiles.getD b none = none then s.answering press .notFound []
      else State.answering { s with punch := { s.punch with presses := s.punch.presses.set n (some ⟨a, b, fans⟩) } }
        press .ok [])) ∧
    (Ready s pattern → exec (.patternLoad tag n dies) s = .next (
      if 15 < n ∨ dies.length = 0 ∨ 8 < dies.length ∨ (∃ d ∈ dies, 11 < d) ∨ ¬ dies.Nodup then
        s.answering pattern .range []
      else State.answering { s with punch := { s.punch with patterns := s.punch.patterns.set n (some dies) } }
        pattern .ok [])) ∧
    (Ready s profile → exec (.profileLoad tag n a b) s = .next (
      if 7 < n ∨ 1 < a ∨ 1 < b then s.answering profile .range []
      else State.answering { s with bend := { s.bend with
        profiles := s.bend.profiles.set n (some ⟨decide (a = 1), decide (b = 1)⟩) } } profile .ok [])) ∧
    (Ready s layout →
      let cart := s.sorter.carts.getD n ⟨none, false, []⟩
      let carts := s.sorter.carts.set n { cart with layout := some ⟨a, b⟩, occupancy := [] }
      exec (.cartLayout tag n a b) s = .next (
        if 5 < n ∨ a = 0 ∨ 12 < a ∨ b = 0 ∨ 4 < b then s.answering layout .range []
        else State.answering { s with sorter := { s.sorter with carts := carts } } layout .ok []))

/-! ### The line (chapter 7) -/

/-- A halt cause is given (R135, R147, R148): in RUNNING the halt record is made, the line becomes HALTED with its outputs
RELEASED, every RUNNING window freezes with its elapsed count, both stroking stations are told, and LINE is raised; in
HALTED the first cause stays and the further halt is recorded; a STOPPED line is not halted. -/
def Obligations.LineHalts : Prop :=
  ∀ (cause : HaltCause) (order sensor : Option Nat) (exit : Option ExitName) (s : State),
    let now := s.clock.time
    let item : Option HaltItem := match order with
      | none => none
      | some n => match s.line.items.find? fun it => decide (it.order = n) with
        | none => none
        | some it => some ⟨it.order, it.plate, it.generation, it.zone, it.location⟩
    let first : HaltRecord := ⟨cause, item, sensor, exit, now, 0, none⟩
    let frozen : Window → Window := fun w =>
      if w.frozen = true then w
      else { w with frozen := true, deadline := none, elapsed := some (min ((now + 4294967296 - w.start) % 4294967296) 65535) }
    (s.line.state = .running → s.haltLine cause order sensor exit = { s with
      line := { s.line with
        state := .halted, halt := some first, out := ⟨false, false, false, false, false, false⟩,
        items := s.line.items.map fun it => { it with window := it.window.map frozen } },
      punch := { s.punch with halted := true },
      bend := { s.bend with halted := true },
      reports := s.reports.raise .line (.line ⟨first, .halted⟩) now }) ∧
    (∀ h, s.line.state = .halted → s.line.halt = some h →
      let h' : HaltRecord := { h with
        count := if h.count < 255 then h.count + 1 else 255, further := some ⟨cause, item, sensor⟩ }
      s.haltLine cause order sensor exit = { s with
        line := { s.line with halt := some h' },
        reports := s.reports.raise .line (.line ⟨h', .halted⟩) now }) ∧
    (s.line.state = .stopped → s.haltLine cause order sensor exit = s)

/-- A PHANTOM (R98, R141, R147, R148) and the expiry of a window (R135, R146): with no window at the sensor, or its
minimum not met, the arrival halts the line PHANTOM, is a further halt in HALTED, and in STOPPED only raises LINE with the
arrival's timestamp, the fields that R156 does not name there being absent and the count 0 (the model's choice, log 39); a
RUNNING window whose deadline is reached halts the line MISSING, or DEPOSIT_TIMEOUT for the DEPOSIT window, while no
window and a FROZEN one have no expiry. -/
def Obligations.PhantomsAndExpiredWindows : Prop :=
  ∀ (sensor : LineSensor) (s : State), s.resetAsserted = false →
    let here : Item → Bool := fun it => match it.window with
      | some w => decide (w.sensor = sensor)
      | none => false
    let n := sensorInput sensor
    let phantom : Nat → Option Nat → State → State := fun stamp order t =>
      if s.line.state = .stopped then
        let content : ConditionBody := .line ⟨⟨.phantom, none, some n, none, stamp, 0, none⟩, .stopped⟩
        { t with reports := t.reports.raise .line content t.clock.time }
      else t.haltLine .phantom order (some n) none
    (∀ x p, accepting s n x p → x.raw = x.rising → s.line.items.find? here = none →
      exec (.lineSensorArrival sensor) s = .next (phantom (stampOf x p) none (s.accepted n x)).finish) ∧
    (∀ x p it w, accepting s n x p → x.raw = x.rising → s.line.items.find? here = some it → it.window = some w →
      ¬ (reached (stampOf x p) w.start ∧ w.min ≤ (stampOf x p + 4294967296 - w.start) % 4294967296) →
      ¬ (w.frozen = true ∧ w.elapsed = some 65535) →
      exec (.lineSensorArrival sensor) s = .next (phantom (stampOf x p) (some it.order) (s.accepted n x)).finish) ∧
    (∀ it w d, s.line.items.find? here = some it → it.window = some w → w.frozen = false → w.deadline = some d →
      reached s.clock.time d →
      exec (.windowExpiry sensor) s = .next (State.finish (s.haltLine
        (if w.kind = .deposit then .depositTimeout else .missing) (some it.order) (some n) none))) ∧
    (s.line.items.find? here = none → exec (.windowExpiry sensor) s = .next s.finish) ∧
    (∀ it w, s.line.items.find? here = some it → it.window = some w → w.frozen = true →
      exec (.windowExpiry sensor) s = .next s.finish)

/-- The to-gate window of a conveyor zone (R135, R140), the opening of a gate (R142) and a release (R144). In RUNNING, with
no item AT_GATE in the zone and none ENTERING the station below, the window starts for the oldest CONVEYING item, when no
older one is MERGING and it has no window. A gate opens for the head item AT_GATE above an empty station: the item is
ENTERING with its entry window, and the gate output is DRIVEN. An item whose station has finished is released when the next
zone has room. Otherwise nothing happens. `State.gateOpens`, `State.itemReleases` and `State.startToGates`, which other
statements name, are these effects. -/
def Obligations.GatesAndReleases : Prop :=
  ∀ (st : Station) (s : State),
    let now := s.clock.time
    let l := s.line
    let window : WindowKind → LineSensor → Window := fun k x =>
      let e := l.table.kinds.getD (windowCode k) ⟨0, 0⟩
      ⟨k, x, now, e.min, e.max, false, some ((now + e.max) % 4294967296), none⟩
    let above : Zone := match st with
      | .punch => .transfer
      | .bend => .link
      | .sort => .outfeed
    let zone : Zone := match st with
      | .punch => .punch
      | .bend => .bend
      | .sort => .sort
    let clear : Prop := (∀ it ∈ l.items, it.zone = above → it.location ≠ .atGate) ∧
      ∀ it ∈ l.items, it.zone = zone → it.location ≠ .entering
    let first := l.items.find? fun it =>
      decide (it.zone = above ∧ (it.location = .merging ∨ it.location = .conveying))
    let toGate : Window := match st with
      | .punch => window .transferGate .tg
      | .bend => window .linkGate .lg
      | .sort => window .outfeedGate .og
    let entry : Window := match st with
      | .punch => window .punchEntry .ps
      | .bend => window .bendEntry .bs
      | .sort => window .sortEntry .ss
    let head := l.items.find? fun it => decide (it.zone = above)
    let inside := l.items.find? fun it => decide (it.zone = zone)
    (∀ it, l.state = .running → clear → first = some it → it.location = .conveying → it.window = none →
      l.startToGate now st =
        { l with items := l.items.map fun j => if j.order = it.order then { j with window := some toGate } else j }) ∧
    ((l.state ≠ .running ∨ ¬ clear ∨ first = none ∨
        ∃ it, first = some it ∧ (it.location = .merging ∨ it.window ≠ none)) → l.startToGate now st = l) ∧
    s.startToGates = { s with line := ((l.startToGate now .punch).startToGate now .bend).startToGate now .sort } ∧
    (s.resetAsserted = false → exec (.gateOpen st) s = .next (s.gateOpens st).finish ∧
      exec (.itemRelease st) s = .next (s.itemReleases st).finish) ∧
    (∀ it, l.state = .running → inside = none → head = some it → it.location = .atGate →
      s.gateOpens st = { s with line := { l with
        items := l.items.map fun j =>
          if j.order = it.order then { j with zone := zone, location := .entering, window := some entry } else j,
        out := match st with
          | .punch => { l.out with gatePunch := true }
          | .bend => { l.out with gateBend := true }
          | .sort => { l.out with gateSort := true } } }) ∧
    (l.state ≠ .running ∨ inside ≠ none ∨ head = none ∨ (∃ it, head = some it ∧ it.location ≠ .atGate) →
      s.gateOpens st = s) ∧
    (∀ it, st ≠ .sort → l.state = .running → inside = some it → it.location = .inStation → it.work = some .done →
      let next : Zone := if st = .punch then .link else .outfeed
      s.itemReleases st =
        if (l.items.filter fun j => decide (j.zone = next)).length < 2 then
          State.startToGates { s with line := { l with items := l.items.map fun j =>
            if j.order = it.order then { j with zone := next, location := .conveying, work := none } else j } }
        else s) ∧
    (st = .sort ∨ l.state ≠ .running ∨ inside = none ∨
        (∃ it, inside = some it ∧ (it.location ≠ .inStation ∨ it.work ≠ some .done)) → s.itemReleases st = s)

/-- An arrival that matches the window at its sensor (R139, R140, R141, R143, R145, R181 to R183). EXIT: the item is
CONVEYING and its imager leaves UNLOADING, for which a dispatch pass is owed (R66, log 5); a to-gate window: AT_GATE; an
entry window: IN_STATION with the gate output RELEASED, its notice given in RUNNING and waiting in HALTED, with the
arrival's timestamp; DEPOSIT: the item is deleted, its destination counts or marks it, a delivery raises the imaged
versions of its entry, its references are given up, its report is offered, in which redirected here is yes for an item
that this station retired (R183, log 29), and the sort station is IDLE, with redirected here clear (log 40). To-gate
windows that may then run start. -/
def Obligations.LineSensorMatches : Prop :=
  (∀ (sensor : LineSensor) (x : Input) (p : PendingChange) (it : Item) (w : Window) (s : State),
    s.resetAsserted = false → accepting s (sensorInput sensor) x p → x.raw = x.rising →
    s.line.items.find? (fun j => match j.window with
      | some v => decide (v.sensor = sensor)
      | none => false) = some it →
    it.window = some w →
    (reached (stampOf x p) w.start ∧ w.min ≤ (stampOf x p + 4294967296 - w.start) % 4294967296) ∨
      (w.frozen = true ∧ w.elapsed = some 65535) →
    let t := s.accepted (sensorInput sensor) x
    let stamp := stampOf x p
    let moved : (Item → Item) → LineOut → State → State := fun f out u => State.startToGates { u with
      line := { s.line with out := out, items := s.line.items.map fun j => if j.order = it.order then f j else j } }
    let entered : Item → Item := fun j => { j with
      window := none, location := .inStation,
      work := some (if s.line.state = .running then .working else .notStarted),
      entryTime := some stamp }
    (w.kind = .exit → exec (.lineSensorArrival sensor) s = .next (State.finish (
      moved (fun j => { j with window := none, location := .conveying, source := none }) s.line.out
        (match it.source with
          | none => t
          | some i =>
            let c := s.chan.get i
            if c.seq.state = .unloading then { t with
              passOwed := true,
              chan := s.chan.set i { c with
                out := { c.out with eject := false }, seq := { c.seq with state := .idle, build := none } } }
            else t)))) ∧
    (w.kind = .transferGate ∨ w.kind = .linkGate ∨ w.kind = .outfeedGate →
      exec (.lineSensorArrival sensor) s = .next (State.finish (
        moved (fun j => { j with window := none, location := .atGate }) s.line.out t))) ∧
    (w.kind = .punchEntry → exec (.lineSensorArrival sensor) s = .next (State.finish (
      moved entered { s.line.out with gatePunch := false } t))) ∧
    (w.kind = .bendEntry → exec (.lineSensorArrival sensor) s = .next (State.finish (
      moved entered { s.line.out with gateBend := false } t))) ∧
    (w.kind = .sortEntry → exec (.lineSensorArrival sensor) s = .next (State.finish (
      moved entered { s.line.out with gateSort := false } t))) ∧
    (∀ d, w.kind = .deposit → s.sorter.state = .depositing → s.sorter.destination = some d →
      let r := s.sorter
      let delivered : Plates := { s.plates with map := s.plates.map.map fun e =>
        if e.id = it.plate then { e with positions := deliverPositions e.positions it.bindings } else e }
      let finished : Sorter → Plates → EventBody → State := fun sorter plates report => State.startToGates { t with
        line := { s.line with items := s.line.items.filter fun j => decide (j.order ≠ it.order) },
        sorter := { sorter with
          state := .idle, item := none, destination := none, divert := none, redirected := false, retiredHere := false },
        plates := plates,
        store := s.store.dropRefs it.bindings,
        reports := s.reports.offer report s.clock.time }
      exec (.lineSensorArrival sensor) s = .next (State.finish (match d with
        | .reject => finished { r with rejects := r.rejects + 1 } s.plates (.plateRejected
            ⟨it.plate, it.generation, it.order, it.press, it.cause, r.retiredHere, r.rejects + 1, stamp⟩)
        | .remake => finished { r with remakes := r.remakes + 1 } delivered (.plateDelivered
            ⟨it.plate, it.generation, it.order, it.press, .remake, false, r.divert, r.remakes + 1, it.bindings, stamp⟩)
        | .cart n slot =>
          let cart := r.carts.getD n ⟨none, false, []⟩
          let marked : Bool := cart.present && (match cart.layout with
            | none => false
            | some g => decide (slot < g.units * 2 * g.acrosses))
          finished (if marked then { r with carts := r.carts.set n { cart with
              occupancy := insertRising slot cart.occupancy } } else r) delivered (.plateDelivered
            ⟨it.plate, it.generation, it.order, it.press, .cart n slot, marked, none, 0, it.bindings, stamp⟩))))) ∧
  (∀ (qs : List Position) (bs : List Binding) (n : Nat) (q : Position) (b : Binding), qs[n]? = some q → bs[n]? = some b →
    (deliverPositions qs bs)[n]? = some (match b with
      | .bound k v => if q.key = some k ∧ q.imaged < v then { q with imaged := v } else q
      | _ => q)) ∧
  (∀ (n m : Nat) (l : List Nat), m ∈ insertRising n l ↔ m = n ∨ m ∈ l)

/-- The merge (R136, R137, R138): in RUNNING, with fewer than 4 items in TRANSFER and the spacing elapsed, the request of
the lowest class, and of that class the first taken, is granted: an item with the fields of the build is created MERGING
with its EXIT window, the build's record is freed and the pending list worked, the request withdrawn and the spacing
started, and the imager enters UNLOADING and drives EJECT. When a condition fails nothing happens. SPACING_EXPIRY notes the
spacing deadline reached. `State.mergeGrants`, which other statements name, is the effect of MERGE_GRANT. -/
def Obligations.MergeGrantAndSpacing : Prop :=
  ∀ s : State, s.resetAsserted = false →
    let l := s.line
    let m := l.merge
    let now := s.clock.time
    exec .mergeGrant s = .next s.mergeGrants.finish ∧
    (∀ r b bid before after, l.state = .running → (l.items.filter fun it => decide (it.zone = .transfer)).length < 4 →
      (m.lastGrant = none ∨ m.spacingOver = true) → m.requests = before ++ r :: after →
      (∀ q ∈ before, r.cls < q.cls) → (∀ q ∈ after, r.cls ≤ q.cls) →
      (s.chan.get r.imager).seq.build = some bid →
      s.plates.builds.find? (fun c => decide (c.bid = bid)) = some b →
      let e := l.table.kinds.getD 0 ⟨0, 0⟩
      let sensor : LineSensor := match r.imager with
        | .a => .exitA
        | .b => .exitB
      let item : Item :=
        { order := l.counter, plate := b.plate, generation := b.generation, bindings := b.bindings,
          press := match b.press with
            | some n => n
            | none => 0
          cause := b.cause, zone := .transfer, location := .merging, source := some r.imager, work := none,
          window := some ⟨.exit, sensor, now, e.min, e.max, false, some ((now + e.max) % 4294967296), none⟩,
          entryTime := none }
      let u := State.workPending { s with
        line := { l with
          items := l.items ++ [item], counter := (l.counter + 1) % 65536,
          merge := ⟨m.requests.filter fun q => decide (q.imager ≠ r.imager), some now,
            some ((now + l.table.spacing) % 4294967296), false⟩ },
        plates := { s.plates with
          builds := s.plates.builds.filter fun c => decide (c.bid ≠ bid),
          queue := s.plates.queue.filter fun n => decide (n ≠ bid) } }
      let c := s.chan.get r.imager
      s.mergeGrants = { u with chan := s.chan.set r.imager { c with
        out := { c.out with eject := true }, seq := { c.seq with state := .unloading, build := none } } }) ∧
    ((l.state ≠ .running ∨ 4 ≤ (l.items.filter fun it => decide (it.zone = .transfer)).length ∨
        (m.lastGrant ≠ none ∧ m.spacingOver = false) ∨ m.requests = []) → s.mergeGrants = s) ∧
    (∀ d, m.deadline = some d → exec .spacingExpiry s = .next (State.finish (
      if reached now d then { s with line := { l with merge := { m with spacingOver := true } } } else s))) ∧
    (m.deadline = none → exec .spacingExpiry s = .next s.finish)

/-- The line's return to RUNNING (R131, R135, R140, R143, R153, R165, R170, R184): the conveyors and the gates of ENTERING
items are DRIVEN, FROZEN windows restart in full from the table, waiting entry notices are given with their timestamps,
to-gate windows start; the controllers take the notices, with the values held at the return (PunchWork, BendWork,
SortDecision); the gates and releases that wait are made, from the sort station up the line, an order that is the model's
choice (log 36); a PAUSED station orders its next stroke, or finishes with an item retired meanwhile (next die place 0 by
log 35); a sort station that was
BLOCKED decides anew; the halt record is gone and the merge conditions are evaluated; and last the halt cause of a sort
station left BLOCKED is given. -/
def Obligations.LineReturnsToRunning : Prop :=
  ∀ s : State,
    let now := s.clock.time
    let entering : Zone → Bool := fun z => s.line.items.any fun it => decide (it.zone = z ∧ it.location = .entering)
    let fresh : Window → Window := fun w =>
      let e := s.line.table.kinds.getD (windowCode w.kind) ⟨0, 0⟩
      if w.frozen = true then ⟨w.kind, w.sensor, now, e.min, e.max, false, some ((now + e.max) % 4294967296), none⟩ else w
    let finished : Nat → Line → Line := fun n l =>
      { l with items := l.items.map fun j => if j.order = n then { j with work := some .done } else j }
    let started := State.startToGates { s with line := { s.line with
      state := .running, halt := none,
      out := ⟨true, true, true, entering .punch, entering .bend, entering .sort⟩,
      items := s.line.items.map fun it => { it with
        window := it.window.map fresh, work := if it.work = some .notStarted then some .working else it.work } } }
    let taken := started.punchEntry.bendEntry.sortTakes
    let u := ((((taken.gateOpens .sort).itemReleases .bend).gateOpens .bend).itemReleases .punch).gateOpens .punch
    let retired : Nat → State → Prop := fun n x =>
      ∃ it, x.line.items.find? (fun j => decide (j.order = n)) = some it ∧ it.cause ≠ .none_
    let v : State :=
      match u.punch.state, u.punch.item with
      | .paused, some n =>
        if retired n u then { u with
          punch := { u.punch with
            halted := false, state := .idle, item := none, pattern := none, nextDie := 0, die := none, start := none,
            deadline := none },
          line := finished n u.line }
        else
          let die := (match u.punch.pattern with
            | some dies => dies
            | none => []).getD u.punch.nextDie 0
          { u with punch := { u.punch with
            halted := false, state := .stroking, die := some die, dies := u.punch.dies.set die true, start := some now,
            deadline := some ((now + u.link.timing.die) % 4294967296), nextDie := u.punch.nextDie + 1 } }
      | _, _ => { u with punch := { u.punch with halted := false } }
    let w : State :=
      match v.bend.state, v.bend.item with
      | .paused, some n =>
        if retired n v then { v with
          bend := { v.bend with
            halted := false, state := .idle, item := none, profile := none, bend := none, start := none, deadline := none },
          line := finished n v.line }
        else { v with bend := { v.bend with
          halted := false, state := .bending, bend := some .tail, outTail := true, start := some now,
          deadline := some ((now + v.link.timing.bend) % 4294967296) } }
      | _, _ => { v with bend := { v.bend with halted := false } }
    let x : State :=
      if s.sorter.state ≠ .blocked then w
      else match w.sorter.item with
        | none => w
        | some n => match w.line.items.find? fun it => decide (it.order = n) with
          | some it => w.decideFor it
          | none => w
    s.returnToRunning = x.mergeGrants.haltBlocked

/-- LINE START, LINE STOP and LINE RESUME (R150 to R152, R166, R170, R184): the states in which each is refused; a start
and a resumption return the line to RUNNING, a stop halts it with cause STOP. REMOVE first deletes the halt item, tells
its imager or station, gives up its references and, for a current item, makes the build-need check; where its imager
leaves UNLOADING or a build becomes READY, the dispatch pass of R66 is made before the reply, by the pass that is owed
(log 5). The reply carries the item's order number, plate id and generation. The next die place 0 of a punch station so
emptied is the choice of log 35, and redirected here clear of a sort station so emptied that of log 40. -/
def Obligations.LineStartStopResume : Prop :=
  ∀ (tag d : Nat) (s : State),
    let start : TaggedRequest := ⟨tag, .lineStart⟩
    let stop : TaggedRequest := ⟨tag, .lineStop⟩
    let resume : TaggedRequest := ⟨tag, .lineResume d⟩
    let removed : Item → State := fun it =>
      let t : State := { s with line := { s.line with
        items := s.line.items.filter fun j => decide (j.order ≠ it.order) } }
      let u : State :=
        match it.location, it.zone with
        | .merging, _ =>
          match it.source with
          | none => t
          | some i =>
            let c := s.chan.get i
            if c.seq.state = .unloading then { t with
              passOwed := true,
              chan := s.chan.set i { c with
                out := { c.out with eject := false }, seq := { c.seq with state := .idle, build := none } } }
            else t
        | .inStation, .punch => { t with punch := { s.punch with
            dies := match s.punch.die with
              | some n => s.punch.dies.set n false
              | none => s.punch.dies
            state := .idle, item := none, pattern := none, nextDie := 0, die := none, start := none, deadline := none } }
        | .inStation, .bend => { t with bend := { s.bend with
            outLead := if s.bend.bend = some .lead then false else s.bend.outLead,
            outTail := if s.bend.bend = some .tail then false else s.bend.outTail,
            state := .idle, item := none, profile := none, bend := none, start := none, deadline := none } }
        | .inStation, .sort => { t with sorter := { s.sorter with
            state := .idle, item := none, destination := none, divert := none, redirected := false,
            retiredHere := false } }
        | _, _ => t
      let v : State := { u with store := s.store.dropRefs it.bindings }
      if it.cause = .none_ then v.needCheck it.plate none else v
    (Ready s start → exec (.lineStart tag) s = .next (
      if s.line.state = .stopped ∨ (s.line.state = .halted ∧ ∃ h, s.line.halt = some h ∧ h.cause = .stop) then
        s.returnToRunning.answering start .ok []
      else s.answering start .badState [])) ∧
    (Ready s stop → exec (.lineStop tag) s = .next (
      if s.line.state = .running then (s.haltLine .stop none none none).answering stop .ok []
      else s.answering stop .badState [])) ∧
    (Ready s resume → (1 < d → exec (.lineResume tag d) s = .next (s.answering resume .range [])) ∧
      (d ≤ 1 → s.line.state ≠ .halted → exec (.lineResume tag d) s = .next (s.answering resume .badState [])) ∧
      (∀ h, d ≤ 1 → s.line.state = .halted → s.line.halt = some h →
        exec (.lineResume tag d) s = .next (
          if h.cause = .exitFull ∧ ((h.exit = some .reject ∧ s.sorter.rejects = 40) ∨
              (h.exit = some .remake ∧ s.sorter.remakes = 12)) then s.answering resume .badState []
          else if d = 0 then s.returnToRunning.answering resume .ok []
          else
            match h.item with
            | none => s.answering resume .badState []
            | some g =>
              match s.line.items.find? fun it => decide (it.order = g.order) with
              | none => s.answering resume .badState []
              | some it => (removed it).returnToRunning.answering resume .ok
                  (be 2 it.order ++ be 1 it.plate.line ++ be 1 it.plate.unit ++ be 1 it.plate.face ++
                    be 1 it.plate.across ++ be 1 it.generation))))

/-! ### The stations (chapters 8 and 9) -/

/-- The Punch Controller (R161 to R163): at the entry notice a current item of another press than its line's is retired
REDIRECTED with a build-need check, a retired item is finished with at once, and otherwise the press's pattern is copied and
its first die ordered. A DIE_HOME arrival of the die in stroke, not stamped before the stroke, completes it: the pattern
exhausted or the item retired, the item is finished with; in a halt the station is PAUSED; else the next die is ordered. Any
other arrival is a stray. A notice waits while the item's entry timestamp is held, and taking it ends that (log 6).
Next die place 0 of a station that has finished is the choice of log 35. `State.punchEntry`, which LineReturnsToRunning names, is the effect of PUNCH_ENTRY. -/
def Obligations.PunchWork : Prop :=
  ∀ s : State, s.resetAsserted = false →
    let now := s.clock.time
    let finished : Nat → Line → Line := fun n l =>
      { l with items := l.items.map fun j => if j.order = n then { j with work := some .done } else j }
    let idle : Punch := { s.punch with
      state := .idle, item := none, pattern := none, nextDie := 0, die := none, start := none, deadline := none }
    let inside := s.line.items.find? fun j => decide (j.zone = .punch)
    exec .punchEntry s = .next s.punchEntry.finish ∧
    (s.line.state ≠ .running ∨ s.punch.state ≠ .idle ∨ inside = none ∨
      (∃ it, inside = some it ∧ (it.location ≠ .inStation ∨ it.work ≠ some .working ∨ it.entryTime = none)) →
      s.punchEntry = s) ∧
    (∀ it stamp, s.line.state = .running → s.punch.state = .idle → inside = some it →
      s.line.items.find? (fun j => decide (j.order = it.order)) = some it →
      it.location = .inStation → it.work = some .working → it.entryTime = some stamp →
      let heard : Line := { s.line with items := s.line.items.map fun j =>
        if j.order = it.order then { j with entryTime := none } else j }
      (it.cause ≠ .none_ → s.punchEntry = { s with line := finished it.order heard }) ∧
      (it.cause = .none_ → s.sched.assignment.getD it.plate.line none ≠ some it.press →
        let u := State.needCheck it.plate none { s with line := { heard with items := heard.items.map fun j =>
          if j.order = it.order then (if j.cause = .none_ then { j with cause := .redirected } else j) else j } }
        s.punchEntry = { u with line := finished it.order u.line }) ∧
      (∀ e die dies, it.cause = .none_ → s.sched.assignment.getD it.plate.line none = some it.press →
        s.punch.presses.getD it.press none = some e → s.punch.patterns.getD e.pattern none = some (die :: dies) →
        s.punchEntry = { s with
          line := heard,
          punch := { s.punch with
            state := .stroking, item := some it.order, pattern := some (die :: dies), nextDie := 1, die := some die,
            dies := s.punch.dies.set die true, start := some now,
            deadline := some ((now + s.link.timing.die) % 4294967296) } })) ∧
    (∀ n x p, n ≤ 11 → accepting s (11 + n) x p → x.raw = x.rising →
      let t := s.accepted (11 + n) x
      (¬ (s.punch.state = .stroking ∧ s.punch.die = some n ∧
          ∃ t0, s.punch.start = some t0 ∧ reached (stampOf x p) t0) →
        exec (.dieHomeArrival n) s = .next (State.finish { t with punch := { s.punch with
          strays := if s.punch.strays < 65535 then s.punch.strays + 1 else s.punch.strays } })) ∧
      (∀ t0 order dies, s.punch.state = .stroking → s.punch.die = some n → s.punch.start = some t0 →
        reached (stampOf x p) t0 → s.punch.item = some order → s.punch.pattern = some dies →
        exec (.dieHomeArrival n) s = .next (State.finish (
          if dies.length ≤ s.punch.nextDie ∨
              ∃ it, s.line.items.find? (fun j => decide (j.order = order)) = some it ∧ it.cause ≠ .none_ then
            { t with punch := { idle with dies := s.punch.dies.set n false }, line := finished order s.line }
          else if s.punch.halted = true then
            { t with punch := { s.punch with
              dies := s.punch.dies.set n false, state := .paused, die := none, start := none, deadline := none } }
          else
            let m := dies.getD s.punch.nextDie 0
            { t with punch := { s.punch with
              dies := (s.punch.dies.set n false).set m true, die := some m, nextDie := s.punch.nextDie + 1,
              start := some now, deadline := some ((now + s.link.timing.die) % 4294967296) } }))))

/-- The Bend Controller (R167, R168): at the entry notice a retired item, and an item of a press whose profile has both
flags off, is finished with at once; otherwise the profile is copied and the lead bend, or without one the tail bend,
ordered. A BEND_DONE arrival not stamped before the bend in stroke completes it: after a lead bend with a tail to follow on
a current item the tail is ordered, or in a halt the station is PAUSED; else the item is finished with. Any other arrival is
a stray. A notice waits while the item's entry timestamp is held, and taking it ends that (log 6). `State.bendEntry`, which
LineReturnsToRunning names, is the effect of BEND_ENTRY. -/
def Obligations.BendWork : Prop :=
  ∀ s : State, s.resetAsserted = false →
    let now := s.clock.time
    let finished : Nat → Line → Line := fun n l =>
      { l with items := l.items.map fun j => if j.order = n then { j with work := some .done } else j }
    let deadline := some ((now + s.link.timing.bend) % 4294967296)
    let inside := s.line.items.find? fun j => decide (j.zone = .bend)
    exec .bendEntry s = .next s.bendEntry.finish ∧
    (s.line.state ≠ .running ∨ s.bend.state ≠ .idle ∨ inside = none ∨
      (∃ it, inside = some it ∧ (it.location ≠ .inStation ∨ it.work ≠ some .working ∨ it.entryTime = none)) →
      s.bendEntry = s) ∧
    (∀ it stamp, s.line.state = .running → s.bend.state = .idle → inside = some it → it.location = .inStation →
      it.work = some .working → it.entryTime = some stamp →
      let heard : State := { s with line := { s.line with items := s.line.items.map fun j =>
        if j.order = it.order then { j with entryTime := none } else j } }
      (it.cause ≠ .none_ → s.bendEntry = { heard with line := finished it.order heard.line }) ∧
      (∀ e f, it.cause = .none_ → s.punch.presses.getD it.press none = some e →
        s.bend.profiles.getD e.profile none = some f →
        s.bendEntry = (
          if f.lead = true then
            { heard with bend := { s.bend with
              state := .bending, item := some it.order, profile := some f, bend := some .lead, outLead := true,
              start := some now, deadline := deadline } }
          else if f.tail = true then
            { heard with bend := { s.bend with
              state := .bending, item := some it.order, profile := some f, bend := some .tail, outTail := true,
              start := some now, deadline := deadline } }
          else { heard with line := finished it.order heard.line }))) ∧
    (∀ x p, accepting s 23 x p → x.raw = x.rising →
      let t := s.accepted 23 x
      (¬ (s.bend.state = .bending ∧ s.bend.bend ≠ none ∧ ∃ t0, s.bend.start = some t0 ∧ reached (stampOf x p) t0) →
        exec .bendDoneArrival s = .next (State.finish { t with bend := { s.bend with
          strays := if s.bend.strays < 65535 then s.bend.strays + 1 else s.bend.strays } })) ∧
      (∀ t0 k order f, s.bend.state = .bending → s.bend.bend = some k → s.bend.start = some t0 →
        reached (stampOf x p) t0 → s.bend.item = some order → s.bend.profile = some f →
        let released : Bend := { s.bend with
          outLead := if k = .lead then false else s.bend.outLead, outTail := if k = .tail then false else s.bend.outTail,
          bend := none, start := none, deadline := none }
        exec .bendDoneArrival s = .next (State.finish (
          if k = .lead ∧ f.tail = true ∧
              ¬ (∃ it, s.line.items.find? (fun j => decide (j.order = order)) = some it ∧ it.cause ≠ .none_) then
            if s.bend.halted = true then { t with bend := { released with state := .paused } }
            else { t with bend := { released with
              bend := some .tail, outTail := true, start := some now, deadline := deadline } }
          else { t with bend := { released with state := .idle, item := none, profile := none }, line := finished order s.line }))))

/-- The die and the bend deadline reached (R37, R38, R149, R164, R169): the output in stroke is RELEASED, a current item is
retired DIE_FAULT or BEND_FAULT with a build-need check, the halt cause is given with the item and the sensor, and the
station finishes with the item, its next die place then 0 by the choice of log 35. Before the deadline nothing happens. -/
def Obligations.StrokeTimeouts : Prop :=
  ∀ (order d : Nat) (it : Item) (s : State), s.resetAsserted = false →
    s.line.items.find? (fun j => decide (j.order = order)) = some it →
    let faulted : Cause → State → State := fun cause u =>
      if it.cause = .none_ then State.needCheck it.plate none { u with line := { u.line with items := u.line.items.map fun j =>
        if j.order = order then (if j.cause = .none_ then { j with cause := cause } else j) else j } }
      else u
    let finished : Line → Line := fun l =>
      { l with items := l.items.map fun j => if j.order = order then { j with work := some .done } else j }
    (∀ n, s.punch.state = .stroking → s.punch.item = some order → s.punch.die = some n → s.punch.deadline = some d →
      exec .dieTimeout s = .next (State.finish (
        if reached s.clock.time d then
          let u := State.haltLine .dieTimeout (some order) (some (11 + n)) none (faulted .dieFault { s with
            punch := { s.punch with dies := s.punch.dies.set n false, die := none, start := none, deadline := none } })
          { u with
            punch := { u.punch with state := .idle, item := none, pattern := none, nextDie := 0 },
            line := finished u.line }
        else s))) ∧
    (∀ k, s.bend.state = .bending → s.bend.item = some order → s.bend.bend = some k → s.bend.deadline = some d →
      exec .bendTimeout s = .next (State.finish (
        if reached s.clock.time d then
          let u := State.haltLine .bendTimeout (some order) (some 23) none (faulted .bendFault { s with
            bend := { s.bend with
              outLead := if k = .lead then false else s.bend.outLead,
              outTail := if k = .tail then false else s.bend.outTail,
              bend := none, start := none, deadline := none } })
          { u with
            bend := { u.bend with state := .idle, item := none, profile := none },
            line := finished u.line }
        else s)))

/-- The slot of a plate (R174): (unit × 2 + face) × A + across when unit < U and across < A, and no slot otherwise; under a
layout of R173 it is below the slot count, the last plate has the last slot, different faces, units or acrosses have
different slots, and the A slots of face 0 and of face 1 of a unit stand one after another. A current plate that has no
slot in the cart of its press, or finds that cart without a layout, is destined for the REMAKE chute with reason NO_SLOT. -/
def Obligations.SlotOfPlate : Prop :=
  ∀ (u a : Nat), 1 ≤ u → u ≤ 12 → 1 ≤ a → a ≤ 4 →
    let l : Layout := ⟨u, a⟩
    (∀ p : PlateId, l.slotOf p =
      if p.unit < u ∧ p.across < a then some ((p.unit * 2 + p.face) * a + p.across) else none) ∧
    (∀ (p : PlateId) (n : Nat), p.face ≤ 1 → l.slotOf p = some n → n < u * 2 * a ∧ n ≤ 95) ∧
    (∀ line : Nat, l.slotOf ⟨line, u - 1, 1, a - 1⟩ = some (u * 2 * a - 1)) ∧
    (∀ (p q : PlateId) (n : Nat), p.face ≤ 1 → q.face ≤ 1 → l.slotOf p = some n → l.slotOf q = some n →
      p.unit = q.unit ∧ p.face = q.face ∧ p.across = q.across) ∧
    (∀ line unit across : Nat, unit < u → across < a →
      l.slotOf ⟨line, unit, 0, across⟩ = some (2 * unit * a + across) ∧
      l.slotOf ⟨line, unit, 1, across⟩ = some (2 * unit * a + a + across)) ∧
    (∀ (it : Item) (s : State),
      let cart := s.sorter.carts.getD it.press ⟨none, false, []⟩
      it.cause = .none_ → s.sched.assignment.getD it.plate.line none = some it.press → cart.present = true →
      (cart.layout = none ∨ (cart.layout = some l ∧ l.slotOf it.plate = none)) →
      (s.decideFor it).sorter.destination = some .remake ∧ (s.decideFor it).sorter.divert = some .noSlot)

/-- Carts (R99, R175): an accepted active edge of CART_n makes the cart PRESENT and keeps its occupancy; an accepted
inactive edge makes it ABSENT and empties its occupancy; the layout is kept through both, whatever the line state and the
station state. -/
def Obligations.CartsAttachAndDetach : Prop :=
  ∀ (n : Nat) (x : Input) (p : PendingChange) (s : State), n ≤ 5 → s.resetAsserted = false → accepting s (24 + n) x p →
    let t := s.accepted (24 + n) x
    let cart := s.sorter.carts.getD n ⟨none, false, []⟩
    (x.raw = x.rising → exec (.cartAttach n) s = .next (State.finish { t with sorter := { s.sorter with
      carts := s.sorter.carts.set n { cart with present := true } } })) ∧
    (x.raw ≠ x.rising → exec (.cartDetach n) s = .next (State.finish { t with sorter := { s.sorter with
      carts := s.sorter.carts.set n { cart with present := false, occupancy := [] } } }))

/-- The destination decision (R176 to R180): REJECT for a retired item, and for a current item of another press than its
line's, which is retired REDIRECTED with a build-need check; REMAKE when the cart is ABSENT, the slot is not in layout or
the slot is occupied; else the cart at the slot. The deposit is ordered with its SORT_EXIT code and DEPOSIT window, unless
the destination is an exit that is full: then the station is BLOCKED, and gives the line the halt cause EXIT_FULL with its
item and the exit. SORT_ENTRY takes the notice that waits, while the item's entry timestamp is held (log 6), and makes the
decision; `State.sortTakes`, which LineReturnsToRunning names, is the same without the halt. That the item was retired here
is kept to its deposit (log 29). An emptied arrival sets its exit's count to 0. -/
def Obligations.SortDecision : Prop :=
  (∀ (it j : Item) (s : State), s.line.items.find? (fun j => decide (j.order = it.order)) = some j → j.plate = it.plate →
    j.cause = it.cause →
    let now := s.clock.time
    let e := s.line.table.kinds.getD 7 ⟨0, 0⟩
    let r := s.sorter
    let fixed : Destination → Option Divert → Bool → State → State := fun d divert redirected u =>
      let t : Sorter := { r with
        item := some it.order, destination := some d, divert := divert, redirected := redirected,
        retiredHere := r.retiredHere || redirected }
      let order : Nat → State := fun code => { u with
        sorter := { t with state := .depositing, exitCode := code },
        line := { u.line with items := u.line.items.map fun j => if j.order = it.order then
          { j with window := some ⟨.deposit, .sd, now, e.min, e.max, false, some ((now + e.max) % 4294967296), none⟩ }
          else j } }
      let blocked : State := { u with sorter := { t with state := .blocked } }
      match d with
      | .cart n _ => order n
      | .reject => if r.rejects = 40 then blocked else order 6
      | .remake => if r.remakes = 12 then blocked else order 7
    let cart := r.carts.getD it.press ⟨none, false, []⟩
    s.decideFor it =
      if it.cause ≠ .none_ then fixed .reject none false s
      else if s.sched.assignment.getD it.plate.line none ≠ some it.press then
        fixed .reject none true (State.needCheck it.plate none { s with line := { s.line with
          items := s.line.items.map fun j =>
            if j.order = it.order then (if j.cause = .none_ then { j with cause := .redirected } else j) else j } })
      else if cart.present = false then fixed .remake (some .cartAbsent) false s
      else
        match cart.layout with
        | none => fixed .remake (some .noSlot) false s
        | some g =>
          if ¬ (it.plate.unit < g.units ∧ it.plate.across < g.acrosses) then fixed .remake (some .noSlot) false s
          else
            let slot := (it.plate.unit * 2 + it.plate.face) * g.acrosses + it.plate.across
            if slot ∈ cart.occupancy then fixed .remake (some .slotOccupied) false s
            else fixed (.cart it.press slot) none false s) ∧
  (∀ s : State,
    let inside := s.line.items.find? fun j => decide (j.zone = .sort)
    (s.sorter.state ≠ .blocked → s.haltBlocked = s) ∧
    (∀ d, s.sorter.state = .blocked → s.sorter.destination = some d →
      s.haltBlocked = s.haltLine .exitFull s.sorter.item none (match d with
        | .cart _ _ => none
        | .reject => some .reject
        | .remake => some .remake)) ∧
    (s.line.state ≠ .running ∨ s.sorter.state ≠ .idle ∨ inside = none ∨
        (∃ it, inside = some it ∧ (it.location ≠ .inStation ∨ it.work ≠ some .working ∨ it.entryTime = none)) →
      s.sortTakes = s ∧ (s.resetAsserted = false → exec .sortEntry s = .next s.finish)) ∧
    (∀ it stamp, s.line.state = .running → s.sorter.state = .idle → inside = some it → it.location = .inStation →
      it.work = some .working → it.entryTime = some stamp →
      s.sortTakes = State.decideFor it { s with line := { s.line with items := s.line.items.map fun j =>
        if j.order = it.order then { j with entryTime := none } else j } } ∧
      (s.resetAsserted = false → exec .sortEntry s = .next s.sortTakes.haltBlocked.finish))) ∧
  (∀ (e : ExitName) (x : Input) (p : PendingChange) (s : State), s.resetAsserted = false →
    accepting s (match e with
      | .reject => 30
      | .remake => 31) x p → x.raw = x.rising →
    exec (.exitEmptied e) s = .next (State.finish (match e with
      | .reject => { s.accepted 30 x with sorter := { s.sorter with rejects := 0 } }
      | .remake => { s.accepted 31 x with sorter := { s.sorter with remakes := 0 } })))

/-! ### Sensors and the Line Timebase (chapter 5) -/

/-- Sensor inputs and time (R94, R96, R97, R99, R100, R108, R135). A raw level equal to the filtered level abandons a pending
change; a different one begins one at this sample or lets it continue. SENSOR SET is refused RANGE, or the edge select and
filter time are taken, the filtered level and the pending change kept, the change judged anew from the next sample on, and a
CART input whose edge select changed attaches or detaches its cart. An inactive edge that is accepted only moves the filtered
level. A tick raises the time and the elapsed count of every FROZEN window. By the choice of log 19 an acceptance of an
earlier sample not yet taken is taken first, with the dispatch pass that it calls for, and by that of log 7 the tick is the
next one of the 48,000 divider. -/
def Obligations.SensorsAndTimebase : Prop :=
  (∀ (n : Nat) (level : Bool) (x : Input) (s : State), s.resetAsserted = false → n < 32 →
    let t : State := if s.overdue n then ((s.arrival n).departure n).makePass else s
    (∀ c, s.inputs[n]? = some x → x.change = some c →
      (s.overdue n = true ↔ c.start + x.filter * 48000 < s.clock.ref ∧ c.notBefore < s.clock.ref)) ∧
    (t.inputs[n]? = some x → exec (.rawLevelChange n level) s = .next (State.finish { t with inputs := t.inputs.set n (
      if level = x.filtered then { x with raw := level, change := none }
      else match x.change with
        | some _ => { x with raw := level }
        | none => { x with raw := level, change := some ⟨s.clock.ref, s.clock.ref⟩ }) }))) ∧
  (∀ (tag n edge filter : Nat) (x : Input) (s : State),
    let r : TaggedRequest := ⟨tag, .sensorSet n edge filter⟩
    let t : State := if s.overdue n then ((s.arrival n).departure n).makePass else s
    let y : Input := { x with
      rising := decide (edge = 0), filter := filter,
      change := match x.change with
        | none => none
        | some c => some ⟨c.start, max c.notBefore (s.clock.ref + 1)⟩ }
    let u : State := { t with inputs := t.inputs.set n y }
    let cart := u.sorter.carts.getD (n - 24) ⟨none, false, []⟩
    Ready s r →
    (31 < n ∨ 1 < edge ∨ 15 < filter → exec (.sensorSet tag n edge filter) s = .next (s.answering r .range [])) ∧
    (n ≤ 31 → edge ≤ 1 → filter ≤ 15 → t.inputs[n]? = some x → exec (.sensorSet tag n edge filter) s = .next (
      if 24 ≤ n ∧ n ≤ 29 ∧ y.rising ≠ x.rising then
        State.answering { u with sorter := { u.sorter with carts := u.sorter.carts.set (n - 24) (
          if y.filtered = y.rising then { cart with present := true }
          else { cart with present := false, occupancy := [] }) } } r .ok []
      else u.answering r .ok []))) ∧
  (∀ (n : Nat) (x : Input) (p : PendingChange) (s : State), s.resetAsserted = false → accepting s n x p →
    x.raw ≠ x.rising →
    exec (.inactiveEdgeAcceptance n) s = .next (State.finish (if 24 ≤ n ∧ n ≤ 29 then s else s.accepted n x))) ∧
  (∀ s : State, s.resetAsserted = false →
    let n := 48000 - s.clock.ref % 48000
    let later : Channel → Channel := fun c => { c with drum := { c.drum with period := min (c.drum.period + n) 16777215 } }
    exec .lineTimebaseTick s = .next (State.finish { s with
      clock := ⟨(s.clock.time + 1) % 4294967296, s.clock.ref + n⟩,
      chan := ⟨later s.chan.a, later s.chan.b⟩,
      line := { s.line with items := s.line.items.map fun it => { it with window := it.window.map fun w =>
        if w.frozen = true then { w with elapsed := w.elapsed.map fun e => if e < 65535 then e + 1 else e } else w } } }))

/-! ### RESTART and queries (chapter 10) -/

/-- RESTART (R25, R56, R93, R130, R155, R198), in a directory with one record of each key and version: the reports are
emptied and the held band frame discarded; RECEIVING records and, with every count 0, those that are SUPERSEDED or not
retained are freed; contexts, writer, builds, queue and pending list are emptied; an imager that is neither IDLE nor FAULT
faults RESTART_WITH_PLATE; the line is STOPPED and empty and its stations IDLE. Tables, holds, stock, exits, carts,
timebase, sensors, mask and sequence number are kept, and the reply is made last. The plate named in a RESTART_WITH_PLATE
record, that of the build held before the table is emptied, is the model's choice (log 18), and so are the order of the
returned cells, that of the directory (log 31), next die place 0 (log 35), redirected here clear (log 40), and emission
pending and step due cleared at that fault (log 38). -/
def Obligations.RestartEmptiesBlocks : Prop :=
  ∀ (tag : Nat) (s : State),
    let t : TaggedRequest := ⟨tag, .restart⟩
    Ready s t → DirectoryDistinct s →
    let now := s.clock.time
    let receiving := s.store.directory.filter fun r => decide (r.state = .receiving)
    let unwanted : PageRecord → Bool := fun r =>
      decide (r.state = .superseded ∨ (r.state = .current ∧ r.retain = false))
    let gone := receiving ++ s.store.directory.filter unwanted
    let sent : Channel → Bool := fun c => decide (c.seq.state ≠ .idle ∧ c.seq.state ≠ .fault)
    let record : Channel → FaultRecord := fun c =>
      { cause := .restartWithPlate,
        plate := match c.seq.build with
          | none => none
          | some n => match s.plates.builds.find? fun b => decide (b.bid = n) with
            | none => none
            | some b => some (b.plate, b.generation)
        left := c.seq.state, time := now }
    let channel : Channel → Channel := fun c => if sent c then { c with
        composer := c.composer.ended,
        out := { drumRun := false, load := false, eject := false, step := false, stepStart := c.out.stepStart },
        seq := { c.seq with
          state := .fault, build := none, loadDeadline := none, spinDeadline := none, revolution := none,
          emissionPending := false, stepDue := false, fault := some (record c) } }
      else c
    let slot : Channel → Option Condition := fun c => if sent c then some ⟨.imager (record c), 0, now, now⟩ else none
    exec (.restart tag) s = .next (State.answering { s with
      reports := { s.reports with
        events := [], slots := ⟨none, slot s.chan.a, slot s.chan.b, none, none, none, none⟩ },
      link := { s.link with holding := none },
      rx := { contexts := List.replicate 8 ⟨.idle, none, 0, none⟩, writer := none },
      store := { s.store with
        directory := (s.store.directory.filter fun r => !decide (r.state = .receiving) && !unwanted r).map
          fun r => { r with refs := 0 },
        idleCells := s.store.idleCells ++ gone.flatMap fun r => r.chain,
        freeCells := s.store.freeCells + (gone.map fun r => r.height).sum,
        notices := [],
        port :=
          { busy := s.store.port.busy.map fun x => { x with discarded := true },
            waitReceive := false, waitA := false, waitB := false, last := s.store.port.last } },
      plates := { s.plates with builds := [], queue := [], pendingList := [] },
      chan := ⟨channel s.chan.a, channel s.chan.b⟩,
      line := { s.line with
        state := .stopped, items := [], halt := none, out := ⟨false, false, false, false, false, false⟩,
        merge := ⟨[], none, none, false⟩ },
      punch := { s.punch with
        dies := match s.punch.die with
          | some n => s.punch.dies.set n false
          | none => s.punch.dies
        state := .idle, item := none, pattern := none, nextDie := 0, die := none, start := none, deadline := none,
        halted := false },
      bend := { s.bend with
        outLead := if s.bend.bend = some .lead then false else s.bend.outLead,
        outTail := if s.bend.bend = some .tail then false else s.bend.outTail,
        state := .idle, item := none, profile := none, bend := none, start := none, deadline := none, halted := false },
      sorter := { s.sorter with
        state := .idle, item := none, destination := none, divert := none, redirected := false,
        retiredHere := false } } t .ok [])

/-- QUERY (R194, R3, R71, R92, R105, R128, R156, R171, R185): no query changes anything but the queues of its own request
and reply. Each refusal is the one the rule names; PAGE returns the matching records in ascending version, PLATE the entry,
the pending place, the current plate and the retired ones, IMAGER, LINE and STORE their values. The encoding of the results
where Table 10.5 leaves it open is the choice of log 16; the requests counted are those of the queue with the QUERY itself
(R190, log 3). -/
def Obligations.QueriesChangeNothing : Prop :=
  ∀ (tag v n : Nat) (k : PageKey) (p : PlateId) (s : State),
    let page : TaggedRequest := ⟨tag, .queryPage k v⟩
    let plate : TaggedRequest := ⟨tag, .queryPlate p⟩
    let imager : TaggedRequest := ⟨tag, .queryImager n⟩
    (Ready s page → ∃ rs : List PageRecord,
      (∀ r, r ∈ rs ↔ r ∈ s.store.directory ∧ r.key = k ∧ (v = 0 ∨ r.version = v)) ∧
      (rs.Pairwise fun a b => a.version ≤ b.version) ∧
      exec (.queryPage tag k v) s = .next (
        if keyOk k = false then s.answering page .range []
        else if rs = [] then s.answering page .notFound []
        else s.answering page .ok (be 1 rs.length ++ rs.flatMap s.pageBytes))) ∧
    (Ready s plate → exec (.queryPlate tag p) s = .next (
      if ¬ (p.line ≤ 7 ∧ p.unit ≤ 11 ∧ p.face ≤ 1 ∧ p.across ≤ 3) then s.answering plate .range []
      else if (∀ e ∈ s.plates.map, e.id ≠ p) ∧ (∀ b ∈ s.plates.builds, b.plate ≠ p) ∧
          (∀ it ∈ s.line.items, it.plate ≠ p) then s.answering plate .notFound []
      else s.answering plate .ok (
        optEntry (s.plates.map.find? fun e => decide (e.id = p)) ++
        optField 1 (placeOf p s.plates.pendingList) ++ s.currentBytes p ++ s.retiredBytes p))) ∧
    (Ready s imager → exec (.queryImager tag n) s = .next (
      let values : Imager → List Byte := fun i =>
        be 1 (s.sched.stock.get i).size ++ be 1 (s.sched.stock.get i).count ++ s.heldBytes i ++
          (s.chan.get i).composer.bytes ++ s.sequencerBytes i
      if n = 0 then s.answering imager .ok (values .a)
      else if n = 1 then s.answering imager .ok (values .b)
      else s.answering imager .range [])) ∧
    (Ready s ⟨tag, .queryLine⟩ → exec (.queryLine tag) s = .next (s.answering ⟨tag, .queryLine⟩ .ok (
      s.sched.bytes ++ be 4 s.clock.time ++ s.inputs.flatMap Input.bytes ++ s.outputBytes ++
        s.line.bytes s.clock.time ++ s.stationBytes ++ s.sorter.bytes))) ∧
    (Ready s ⟨tag, .queryStore⟩ → exec (.queryStore tag) s = .next (s.answering ⟨tag, .queryStore⟩ .ok (
      be 2 s.store.freeCells ++ be 2 s.store.idleCells.length ++ be 2 s.store.directory.length ++
        s.rx.contexts.flatMap (Context.bytes s.clock.time) ++ flagByte s.rx.writer.isSome ++
        flagByte s.link.holding.isSome ++ presentByte (s.link.holding.map fun f => f.tag) ++
        presentWord (s.link.holding.map BandFrame.index) ++ be 1 (requesterCode s.store.port.last) ++
        (be 2 s.link.timing.receive ++ be 2 s.link.timing.load ++ be 2 s.link.timing.spinup ++
          be 2 s.link.timing.die ++ be 2 s.link.timing.bend) ++
        be 1 (if s.link.requests = [] then 1 else s.link.requests.length) ++ be 1 s.link.replies.length ++
        [0, 1, 2, 3].flatMap (fun level => be 1 (s.reports.events.countP fun e => decide (e.body.level = level))) ++
        Source.all.flatMap s.reports.slots.bytes ++ be 1 s.reports.mask ++ be 1 s.reports.seq)))
end

