-- ==== Sys2Proof/Laws/Memory.lean ====
section
/-! SUPPORT. The raster memory: a byte reads as it was last written, other bytes are left alone, and the canonical form
is kept; the store operations that leave the memory alone. -/

namespace Sys2Proof.Machine

theorem Memory.read_write (m : List Host.Cell) (a b : Nat) (v : Byte) (h : Memory.wf m) :
    Memory.read (Memory.write m a v) b = if b = a then v else Memory.read m b := by
  induction m with
  | nil =>
    simp only [Memory.write]
    split
    · rename_i hv
      simp [Memory.read, hv]
    · simp [Memory.read]
  | cons c m ih =>
    obtain ⟨c1, c2⟩ := c
    have hm : Memory.wf m := ⟨(List.pairwise_cons.mp h.1).2, fun x hx => h.2 x (List.mem_cons_of_mem _ hx)⟩
    have hlt : ∀ x ∈ m, c1 < x.1 := (List.pairwise_cons.mp h.1).1
    have hfar : ∀ n, n ≤ c1 → Memory.read m n = 0 := by
      intro n hn
      clear ih h hm
      induction m with
      | nil => rfl
      | cons d m ih2 =>
        have h1 := hlt d (by simp)
        have hne : n ≠ d.1 := by omega
        simp only [Memory.read, if_neg hne]
        exact ih2 fun x hx => hlt x (List.mem_cons_of_mem _ hx)
    have ih := ih hm
    simp only [Memory.write]
    by_cases h1 : a < c1
    · rw [if_pos h1]
      by_cases hv : v = 0
      · rw [if_pos hv]
        by_cases hb : b = a
        · subst hb
          have hne : b ≠ c1 := by omega
          simp [Memory.read, hne, hv, hfar b (by omega)]
        · simp [hb]
      · rw [if_neg hv]
        simp only [Memory.read]
    · rw [if_neg h1]
      by_cases h2 : a = c1
      · subst h2
        rw [if_pos rfl]
        by_cases hv : v = 0
        · rw [if_pos hv]
          by_cases hb : b = a
          · subst hb; simp [hv, hfar b (Nat.le_refl b)]
          · simp [Memory.read, hb]
        · rw [if_neg hv]
          by_cases hb : b = a <;> simp [Memory.read, hb]
      · rw [if_neg h2]
        simp only [Memory.read, ih]
        by_cases hb : b = c1
        · subst hb
          have : b ≠ a := fun h => h2 h.symm
          simp [this]
        · simp [hb]

theorem Memory.lt_write (m : List Host.Cell) (n a : Nat) (v : Byte) (h : ∀ x ∈ m, n < x.1) (ha : n < a) :
    ∀ x ∈ Memory.write m a v, n < x.1 := by
  induction m with
  | nil =>
    simp only [Memory.write]
    split
    · simp
    · simpa using ha
  | cons c m ih =>
    have hc : n < c.1 := h c (by simp)
    have hm : ∀ x ∈ m, n < x.1 := fun x hx => h x (List.mem_cons_of_mem _ hx)
    simp only [Memory.write]
    intro x hx
    split at hx
    · split at hx
      · exact h x hx
      · rcases List.mem_cons.mp hx with rfl | hx
        · exact ha
        · exact h x hx
    · split at hx
      · split at hx
        · exact hm x hx
        · rcases List.mem_cons.mp hx with rfl | hx
          · exact ha
          · exact hm x hx
      · rcases List.mem_cons.mp hx with rfl | hx
        · exact hc
        · exact ih hm x hx

theorem Memory.write_wf (m : List Host.Cell) (a : Nat) (v : Byte) (h : Memory.wf m) : Memory.wf (Memory.write m a v) := by
  induction m with
  | nil =>
    simp only [Memory.write]
    split
    · simp [Memory.wf]
    · rename_i hv
      exact ⟨List.pairwise_singleton _ _, fun x hx => by simp at hx; subst hx; exact hv⟩
  | cons c m ih =>
    have hm : Memory.wf m := ⟨(List.pairwise_cons.mp h.1).2, fun x hx => h.2 x (List.mem_cons_of_mem _ hx)⟩
    have hlt : ∀ x ∈ m, c.1 < x.1 := (List.pairwise_cons.mp h.1).1
    simp only [Memory.write]
    split
    · rename_i h1
      split
      · exact h
      · rename_i hv
        refine ⟨List.pairwise_cons.mpr ⟨?_, h.1⟩, ?_⟩
        · intro x hx
          rcases List.mem_cons.mp hx with rfl | hx
          · exact h1
          · exact Nat.lt_trans h1 (hlt x hx)
        · intro x hx
          rcases List.mem_cons.mp hx with rfl | hx
          · exact hv
          · exact h.2 x hx
    · split
      · rename_i h2
        split
        · exact hm
        · rename_i hv
          refine ⟨List.pairwise_cons.mpr ⟨?_, hm.1⟩, ?_⟩
          · intro x hx
            show a < x.1
            rw [h2]
            exact hlt x hx
          · intro x hx
            rcases List.mem_cons.mp hx with rfl | hx
            · exact hv
            · exact hm.2 x hx
      · rename_i h1 h2
        have ih := ih hm
        refine ⟨List.pairwise_cons.mpr ⟨?_, ih.1⟩, ?_⟩
        · exact Memory.lt_write m c.1 a v hlt (by omega)
        · intro x hx
          rcases List.mem_cons.mp hx with rfl | hx
          · exact h.2 _ (by simp)
          · exact ih.2 x hx

theorem Memory.writeBytes_wf (m : List Host.Cell) (a : Nat) (vs : List Byte) (h : Memory.wf m) :
    Memory.wf (Memory.writeBytes m a vs) := by
  induction vs generalizing m a with
  | nil => exact h
  | cons v vs ih => exact ih _ _ (Memory.write_wf m a v h)

/-- A run of bytes is written from address `a` upwards, and every other byte is as before. -/
theorem Memory.read_writeBytes (m : List Host.Cell) (a b : Nat) (vs : List Byte) (h : Memory.wf m) :
    Memory.read (Memory.writeBytes m a vs) b =
      if a ≤ b ∧ b < a + vs.length then vs.getD (b - a) 0 else Memory.read m b := by
  induction vs generalizing m a with
  | nil =>
    have : ¬ (a ≤ b ∧ b < a + ([] : List Byte).length) := by simp
    rw [if_neg this]
    rfl
  | cons v vs ih =>
    simp only [Memory.writeBytes, ih _ _ (Memory.write_wf m a v h), Memory.read_write m a b v h, List.length_cons]
    by_cases hb : b = a
    · subst hb
      simp
    · by_cases h1 : a + 1 ≤ b ∧ b < a + 1 + vs.length
      · have h2 : a ≤ b ∧ b < a + (vs.length + 1) := by omega
        rw [if_pos h1, if_pos h2]
        obtain ⟨d, hd⟩ : ∃ d, b = a + 1 + d := ⟨b - (a + 1), by omega⟩
        subst hd
        have e1 : a + 1 + d - (a + 1) = d := by omega
        have e2 : a + 1 + d - a = d + 1 := by omega
        rw [e1, e2]
        rfl
      · have h2 : ¬ (a ≤ b ∧ b < a + (vs.length + 1)) := by omega
        rw [if_neg h1, if_neg h2, if_neg hb]

/-! ### Store operations that leave the memory alone -/

@[simp] theorem Store.modify_frame (t : Store) (k : PageKey) (v : Nat) (f : PageRecord → PageRecord) :
    (t.modify k v f).memory = t.memory ∧ (t.modify k v f).port = t.port ∧ (t.modify k v f).notices = t.notices ∧
    (t.modify k v f).freeCells = t.freeCells ∧ (t.modify k v f).idleCells = t.idleCells := by
  and_intros <;> rfl

@[simp] theorem Store.giveBack_frame (t : Store) (r : PageRecord) :
    (t.giveBack r).memory = t.memory ∧ (t.giveBack r).port = t.port ∧ (t.giveBack r).notices = t.notices := by
  and_intros <;> rfl

@[simp] theorem Store.evalFree_frame (t : Store) (k : PageKey) (v : Nat) :
    (t.evalFree k v).memory = t.memory ∧ (t.evalFree k v).port = t.port ∧ (t.evalFree k v).notices = t.notices := by
  unfold Store.evalFree
  repeat' split
  all_goals simp

@[simp] theorem Store.addRef_frame (t : Store) (k : PageKey) (v : Nat) :
    (t.addRef k v).memory = t.memory ∧ (t.addRef k v).port = t.port ∧ (t.addRef k v).notices = t.notices := by
  simp [Store.addRef]

@[simp] theorem Store.dropRef_frame (t : Store) (k : PageKey) (v : Nat) :
    (t.dropRef k v).memory = t.memory ∧ (t.dropRef k v).port = t.port ∧ (t.dropRef k v).notices = t.notices := by
  simp [Store.dropRef]

@[simp] theorem Store.addRefs_frame (t : Store) (bs : List Binding) :
    (t.addRefs bs).memory = t.memory ∧ (t.addRefs bs).port = t.port ∧ (t.addRefs bs).notices = t.notices := by
  induction bs generalizing t with
  | nil => simp [Store.addRefs]
  | cons b bs ih => cases b <;> simp [Store.addRefs, ih]

@[simp] theorem Store.dropRefs_frame (t : Store) (bs : List Binding) :
    (t.dropRefs bs).memory = t.memory ∧ (t.dropRefs bs).port = t.port ∧ (t.dropRefs bs).notices = t.notices := by
  induction bs generalizing t with
  | nil => simp [Store.dropRefs]
  | cons b bs ih => cases b <;> simp [Store.dropRefs, ih]

@[simp] theorem Store.evalAll_frame (t : Store) (rs : List PageRecord) :
    (t.evalAll rs).memory = t.memory ∧ (t.evalAll rs).port = t.port ∧ (t.evalAll rs).notices = t.notices := by
  induction rs generalizing t with
  | nil => simp [Store.evalAll]
  | cons r rs ih => simp [Store.evalAll, ih]

end Sys2Proof.Machine
end

