-- ==== Sys2Proof/Laws/Basic.lean ====
section
/-! SUPPORT. Frames: what the named updates of State and the shared operations of Ops, Flags and Pages leave unchanged. -/

namespace Sys2Proof.Machine

@[simp] theorem State.requestPort_frame (r : Requester) (s : State) :
    (s.requestPort r).pending = s.pending ∧ (s.requestPort r).resetAsserted = s.resetAsserted ∧
    (s.requestPort r).freeCount = s.freeCount ∧ (s.requestPort r).passOwed = s.passOwed ∧
    (s.requestPort r).clock = s.clock ∧ (s.requestPort r).link = s.link ∧ (s.requestPort r).rx = s.rx ∧
    (s.requestPort r).plates = s.plates ∧ (s.requestPort r).sched = s.sched ∧ (s.requestPort r).chan = s.chan ∧
    (s.requestPort r).line = s.line ∧ (s.requestPort r).punch = s.punch ∧ (s.requestPort r).bend = s.bend ∧
    (s.requestPort r).sorter = s.sorter ∧ (s.requestPort r).inputs = s.inputs ∧ (s.requestPort r).reports = s.reports ∧
    (s.requestPort r).store.memory = s.store.memory ∧ (s.requestPort r).store.directory = s.store.directory ∧
    (s.requestPort r).store.notices = s.store.notices ∧ (s.requestPort r).store.freeCells = s.store.freeCells ∧
    (s.requestPort r).store.idleCells = s.store.idleCells := by
  and_intros <;> rfl

@[simp] theorem State.withdrawPort_frame (r : Requester) (s : State) :
    (s.withdrawPort r).pending = s.pending ∧ (s.withdrawPort r).resetAsserted = s.resetAsserted ∧
    (s.withdrawPort r).freeCount = s.freeCount ∧ (s.withdrawPort r).passOwed = s.passOwed ∧
    (s.withdrawPort r).clock = s.clock ∧ (s.withdrawPort r).link = s.link ∧ (s.withdrawPort r).rx = s.rx ∧
    (s.withdrawPort r).plates = s.plates ∧ (s.withdrawPort r).sched = s.sched ∧ (s.withdrawPort r).chan = s.chan ∧
    (s.withdrawPort r).line = s.line ∧ (s.withdrawPort r).punch = s.punch ∧ (s.withdrawPort r).bend = s.bend ∧
    (s.withdrawPort r).sorter = s.sorter ∧ (s.withdrawPort r).inputs = s.inputs ∧
    (s.withdrawPort r).reports = s.reports ∧ (s.withdrawPort r).store.memory = s.store.memory ∧
    (s.withdrawPort r).store.directory = s.store.directory ∧ (s.withdrawPort r).store.notices = s.store.notices ∧
    (s.withdrawPort r).store.freeCells = s.store.freeCells ∧
    (s.withdrawPort r).store.idleCells = s.store.idleCells := by
  and_intros <;> rfl

@[simp] theorem State.raise_frame (src : Source) (body : ConditionBody) (s : State) :
    (s.raise src body).pending = s.pending ∧ (s.raise src body).resetAsserted = s.resetAsserted ∧
    (s.raise src body).freeCount = s.freeCount ∧ (s.raise src body).passOwed = s.passOwed ∧
    (s.raise src body).clock = s.clock ∧ (s.raise src body).link = s.link ∧ (s.raise src body).rx = s.rx ∧
    (s.raise src body).store = s.store ∧ (s.raise src body).plates = s.plates ∧ (s.raise src body).sched = s.sched ∧
    (s.raise src body).chan = s.chan ∧ (s.raise src body).line = s.line ∧ (s.raise src body).punch = s.punch ∧
    (s.raise src body).bend = s.bend ∧ (s.raise src body).sorter = s.sorter ∧ (s.raise src body).inputs = s.inputs ∧
    (s.raise src body).reports.mask = s.reports.mask ∧ (s.raise src body).reports.seq = s.reports.seq ∧
    (s.raise src body).reports.events = s.reports.events := by
  and_intros <;> rfl

@[simp] theorem State.offer_frame (body : EventBody) (s : State) :
    (s.offer body).pending = s.pending ∧ (s.offer body).resetAsserted = s.resetAsserted ∧
    (s.offer body).freeCount = s.freeCount ∧ (s.offer body).passOwed = s.passOwed ∧ (s.offer body).clock = s.clock ∧
    (s.offer body).link = s.link ∧ (s.offer body).rx = s.rx ∧ (s.offer body).store = s.store ∧
    (s.offer body).plates = s.plates ∧ (s.offer body).sched = s.sched ∧ (s.offer body).chan = s.chan ∧
    (s.offer body).line = s.line ∧ (s.offer body).punch = s.punch ∧ (s.offer body).bend = s.bend ∧
    (s.offer body).sorter = s.sorter ∧ (s.offer body).inputs = s.inputs ∧ (s.offer body).reports.mask = s.reports.mask ∧
    (s.offer body).reports.seq = s.reports.seq := by
  simp only [State.offer, Reports.offer]
  split <;> simp [Reports.raise]

@[simp] theorem State.addReply_frame (r : Reply) (s : State) :
    (s.addReply r).pending = s.pending ∧ (s.addReply r).resetAsserted = s.resetAsserted ∧
    (s.addReply r).freeCount = s.freeCount ∧ (s.addReply r).passOwed = s.passOwed ∧ (s.addReply r).clock = s.clock ∧
    (s.addReply r).rx = s.rx ∧ (s.addReply r).store = s.store ∧ (s.addReply r).plates = s.plates ∧
    (s.addReply r).sched = s.sched ∧ (s.addReply r).chan = s.chan ∧ (s.addReply r).line = s.line ∧
    (s.addReply r).punch = s.punch ∧ (s.addReply r).bend = s.bend ∧ (s.addReply r).sorter = s.sorter ∧
    (s.addReply r).inputs = s.inputs ∧ (s.addReply r).reports = s.reports ∧
    (s.addReply r).link.requests = s.link.requests ∧ (s.addReply r).link.lane = s.link.lane ∧
    (s.addReply r).link.timing = s.link.timing ∧ (s.addReply r).link.holding = s.link.holding := by
  and_intros <;> rfl

@[simp] theorem State.replyAtOnce_frame (tag kind : Nat) (c : Code) (s : State) :
    (s.replyAtOnce tag kind c).pending = s.pending ∧ (s.replyAtOnce tag kind c).resetAsserted = s.resetAsserted ∧
    (s.replyAtOnce tag kind c).freeCount = s.freeCount ∧ (s.replyAtOnce tag kind c).passOwed = s.passOwed ∧
    (s.replyAtOnce tag kind c).clock = s.clock ∧ (s.replyAtOnce tag kind c).rx = s.rx ∧
    (s.replyAtOnce tag kind c).store = s.store ∧ (s.replyAtOnce tag kind c).plates = s.plates ∧
    (s.replyAtOnce tag kind c).sched = s.sched ∧ (s.replyAtOnce tag kind c).chan = s.chan ∧
    (s.replyAtOnce tag kind c).line = s.line ∧ (s.replyAtOnce tag kind c).punch = s.punch ∧
    (s.replyAtOnce tag kind c).bend = s.bend ∧ (s.replyAtOnce tag kind c).sorter = s.sorter ∧
    (s.replyAtOnce tag kind c).inputs = s.inputs ∧ (s.replyAtOnce tag kind c).link.requests = s.link.requests ∧
    (s.replyAtOnce tag kind c).link.lane = s.link.lane ∧ (s.replyAtOnce tag kind c).link.timing = s.link.timing ∧
    (s.replyAtOnce tag kind c).link.holding = s.link.holding ∧
    (s.replyAtOnce tag kind c).reports.mask = s.reports.mask ∧ (s.replyAtOnce tag kind c).reports.seq = s.reports.seq ∧
    (s.replyAtOnce tag kind c).reports.events = s.reports.events := by
  simp only [State.replyAtOnce]
  split <;> simp

@[simp] theorem State.acceptInput_frame (n : Nat) (s : State) :
    (s.acceptInput n).pending = s.pending ∧ (s.acceptInput n).resetAsserted = s.resetAsserted ∧
    (s.acceptInput n).freeCount = s.freeCount ∧ (s.acceptInput n).passOwed = s.passOwed ∧
    (s.acceptInput n).clock = s.clock ∧ (s.acceptInput n).link = s.link ∧ (s.acceptInput n).rx = s.rx ∧
    (s.acceptInput n).store = s.store ∧ (s.acceptInput n).plates = s.plates ∧ (s.acceptInput n).sched = s.sched ∧
    (s.acceptInput n).chan = s.chan ∧ (s.acceptInput n).line = s.line ∧ (s.acceptInput n).punch = s.punch ∧
    (s.acceptInput n).bend = s.bend ∧ (s.acceptInput n).sorter = s.sorter ∧ (s.acceptInput n).reports = s.reports := by
  and_intros <;> rfl

@[simp] theorem State.setContext_frame (n : Nat) (c : Context) (s : State) :
    (s.setContext n c).pending = s.pending ∧ (s.setContext n c).resetAsserted = s.resetAsserted ∧
    (s.setContext n c).freeCount = s.freeCount ∧ (s.setContext n c).passOwed = s.passOwed ∧
    (s.setContext n c).clock = s.clock ∧ (s.setContext n c).link = s.link ∧ (s.setContext n c).store = s.store ∧
    (s.setContext n c).plates = s.plates ∧ (s.setContext n c).sched = s.sched ∧ (s.setContext n c).chan = s.chan ∧
    (s.setContext n c).line = s.line ∧ (s.setContext n c).punch = s.punch ∧ (s.setContext n c).bend = s.bend ∧
    (s.setContext n c).sorter = s.sorter ∧ (s.setContext n c).inputs = s.inputs ∧
    (s.setContext n c).reports = s.reports ∧ (s.setContext n c).rx.writer = s.rx.writer := by
  and_intros <;> rfl

@[simp] theorem State.abandonWrite_frame (k : PageKey) (v : Nat) (s : State) :
    (s.abandonWrite k v).pending = s.pending ∧ (s.abandonWrite k v).resetAsserted = s.resetAsserted ∧
    (s.abandonWrite k v).freeCount = s.freeCount ∧ (s.abandonWrite k v).passOwed = s.passOwed ∧
    (s.abandonWrite k v).clock = s.clock ∧ (s.abandonWrite k v).link = s.link ∧ (s.abandonWrite k v).plates = s.plates ∧
    (s.abandonWrite k v).sched = s.sched ∧ (s.abandonWrite k v).chan = s.chan ∧ (s.abandonWrite k v).line = s.line ∧
    (s.abandonWrite k v).punch = s.punch ∧ (s.abandonWrite k v).bend = s.bend ∧ (s.abandonWrite k v).sorter = s.sorter ∧
    (s.abandonWrite k v).inputs = s.inputs ∧ (s.abandonWrite k v).reports = s.reports ∧
    (s.abandonWrite k v).store.memory = s.store.memory := by
  simp only [State.abandonWrite]
  repeat' split
  all_goals simp

@[simp] theorem State.discardRecord_frame (r : PageRecord) (s : State) :
    (s.discardRecord r).pending = s.pending ∧ (s.discardRecord r).resetAsserted = s.resetAsserted ∧
    (s.discardRecord r).freeCount = s.freeCount ∧ (s.discardRecord r).passOwed = s.passOwed ∧
    (s.discardRecord r).clock = s.clock ∧ (s.discardRecord r).link = s.link ∧ (s.discardRecord r).plates = s.plates ∧
    (s.discardRecord r).sched = s.sched ∧ (s.discardRecord r).chan = s.chan ∧ (s.discardRecord r).line = s.line ∧
    (s.discardRecord r).punch = s.punch ∧ (s.discardRecord r).bend = s.bend ∧ (s.discardRecord r).sorter = s.sorter ∧
    (s.discardRecord r).inputs = s.inputs ∧ (s.discardRecord r).reports = s.reports ∧
    (s.discardRecord r).store.memory = s.store.memory := by
  simp only [State.discardRecord]
  split <;> simp

@[simp] theorem State.dropRecord_frame (r : PageRecord) (c : DropCause) (o : Option Nat) (v : Nat) (s : State) :
    (s.dropRecord r c o v).pending = s.pending ∧ (s.dropRecord r c o v).resetAsserted = s.resetAsserted ∧
    (s.dropRecord r c o v).freeCount = s.freeCount ∧ (s.dropRecord r c o v).passOwed = s.passOwed ∧
    (s.dropRecord r c o v).clock = s.clock ∧ (s.dropRecord r c o v).link = s.link ∧
    (s.dropRecord r c o v).plates = s.plates ∧ (s.dropRecord r c o v).sched = s.sched ∧
    (s.dropRecord r c o v).chan = s.chan ∧ (s.dropRecord r c o v).line = s.line ∧
    (s.dropRecord r c o v).punch = s.punch ∧ (s.dropRecord r c o v).bend = s.bend ∧
    (s.dropRecord r c o v).sorter = s.sorter ∧ (s.dropRecord r c o v).inputs = s.inputs ∧
    (s.dropRecord r c o v).store.memory = s.store.memory ∧ (s.dropRecord r c o v).reports.mask = s.reports.mask ∧
    (s.dropRecord r c o v).reports.seq = s.reports.seq := by
  simp [State.dropRecord]

@[simp] theorem State.acceptBand_frame (f : BandFrame) (c : Context) (r : PageRecord) (s : State) :
    (s.acceptBand f c r).pending = s.pending ∧ (s.acceptBand f c r).resetAsserted = s.resetAsserted ∧
    (s.acceptBand f c r).freeCount = s.freeCount ∧ (s.acceptBand f c r).passOwed = s.passOwed ∧
    (s.acceptBand f c r).clock = s.clock ∧ (s.acceptBand f c r).link = s.link ∧ (s.acceptBand f c r).plates = s.plates ∧
    (s.acceptBand f c r).sched = s.sched ∧ (s.acceptBand f c r).chan = s.chan ∧ (s.acceptBand f c r).line = s.line ∧
    (s.acceptBand f c r).punch = s.punch ∧ (s.acceptBand f c r).bend = s.bend ∧ (s.acceptBand f c r).sorter = s.sorter ∧
    (s.acceptBand f c r).inputs = s.inputs ∧ (s.acceptBand f c r).reports = s.reports ∧
    (s.acceptBand f c r).store.memory = s.store.memory := by
  simp [State.acceptBand]

@[simp] theorem State.takeBand_frame (f : BandFrame) (s : State) :
    (s.takeBand f).pending = s.pending ∧ (s.takeBand f).resetAsserted = s.resetAsserted ∧
    (s.takeBand f).freeCount = s.freeCount ∧ (s.takeBand f).passOwed = s.passOwed ∧ (s.takeBand f).clock = s.clock ∧
    (s.takeBand f).link = s.link ∧ (s.takeBand f).plates = s.plates ∧ (s.takeBand f).sched = s.sched ∧
    (s.takeBand f).chan = s.chan ∧ (s.takeBand f).line = s.line ∧ (s.takeBand f).punch = s.punch ∧
    (s.takeBand f).bend = s.bend ∧ (s.takeBand f).sorter = s.sorter ∧ (s.takeBand f).inputs = s.inputs ∧
    (s.takeBand f).store.memory = s.store.memory ∧ (s.takeBand f).reports.mask = s.reports.mask ∧
    (s.takeBand f).reports.seq = s.reports.seq := by
  simp only [State.takeBand]
  repeat' split
  all_goals simp

@[simp] theorem State.passHeld_frame (s : State) :
    (s.passHeld).pending = s.pending ∧ (s.passHeld).resetAsserted = s.resetAsserted ∧
    (s.passHeld).freeCount = s.freeCount ∧ (s.passHeld).passOwed = s.passOwed ∧ (s.passHeld).clock = s.clock ∧
    (s.passHeld).plates = s.plates ∧ (s.passHeld).sched = s.sched ∧ (s.passHeld).chan = s.chan ∧
    (s.passHeld).line = s.line ∧ (s.passHeld).punch = s.punch ∧ (s.passHeld).bend = s.bend ∧
    (s.passHeld).sorter = s.sorter ∧ (s.passHeld).inputs = s.inputs ∧ (s.passHeld).store.memory = s.store.memory ∧
    (s.passHeld).reports.mask = s.reports.mask ∧ (s.passHeld).reports.seq = s.reports.seq ∧
    (s.passHeld).link.requests = s.link.requests ∧ (s.passHeld).link.replies = s.link.replies ∧
    (s.passHeld).link.lane = s.link.lane ∧ (s.passHeld).link.timing = s.link.timing := by
  simp only [State.passHeld]
  split <;> simp

@[simp] theorem State.bandArrives_frame (f : BandFrame) (s : State) :
    (s.bandArrives f).pending = s.pending ∧ (s.bandArrives f).resetAsserted = s.resetAsserted ∧
    (s.bandArrives f).freeCount = s.freeCount ∧ (s.bandArrives f).passOwed = s.passOwed ∧
    (s.bandArrives f).clock = s.clock ∧ (s.bandArrives f).plates = s.plates ∧ (s.bandArrives f).sched = s.sched ∧
    (s.bandArrives f).chan = s.chan ∧ (s.bandArrives f).line = s.line ∧ (s.bandArrives f).punch = s.punch ∧
    (s.bandArrives f).bend = s.bend ∧ (s.bandArrives f).sorter = s.sorter ∧ (s.bandArrives f).inputs = s.inputs ∧
    (s.bandArrives f).store.memory = s.store.memory ∧ (s.bandArrives f).reports.mask = s.reports.mask ∧
    (s.bandArrives f).reports.seq = s.reports.seq ∧ (s.bandArrives f).link.requests = s.link.requests ∧
    (s.bandArrives f).link.replies = s.link.replies ∧ (s.bandArrives f).link.lane = s.link.lane ∧
    (s.bandArrives f).link.timing = s.link.timing := by
  simp only [State.bandArrives]
  split <;> simp

@[simp] theorem State.dropOvertaken_frame (v : Nat) (l : List PageRecord) (s : State) :
    (s.dropOvertaken v l).pending = s.pending ∧ (s.dropOvertaken v l).resetAsserted = s.resetAsserted ∧
    (s.dropOvertaken v l).freeCount = s.freeCount ∧ (s.dropOvertaken v l).passOwed = s.passOwed ∧
    (s.dropOvertaken v l).clock = s.clock ∧ (s.dropOvertaken v l).link = s.link ∧
    (s.dropOvertaken v l).plates = s.plates ∧ (s.dropOvertaken v l).sched = s.sched ∧
    (s.dropOvertaken v l).chan = s.chan ∧ (s.dropOvertaken v l).line = s.line ∧ (s.dropOvertaken v l).punch = s.punch ∧
    (s.dropOvertaken v l).bend = s.bend ∧ (s.dropOvertaken v l).sorter = s.sorter ∧
    (s.dropOvertaken v l).inputs = s.inputs ∧ (s.dropOvertaken v l).store.memory = s.store.memory ∧
    (s.dropOvertaken v l).reports.mask = s.reports.mask ∧ (s.dropOvertaken v l).reports.seq = s.reports.seq := by
  induction l generalizing s with
  | nil => simp [State.dropOvertaken]
  | cons a l ih => simp [State.dropOvertaken, ih]

@[simp] theorem State.completePage_frame (k : PageKey) (v stream : Nat) (s : State) :
    (s.completePage k v stream).pending = s.pending ∧ (s.completePage k v stream).resetAsserted = s.resetAsserted ∧
    (s.completePage k v stream).freeCount = s.freeCount ∧ (s.completePage k v stream).passOwed = s.passOwed ∧
    (s.completePage k v stream).clock = s.clock ∧ (s.completePage k v stream).link = s.link ∧
    (s.completePage k v stream).plates = s.plates ∧ (s.completePage k v stream).sched = s.sched ∧
    (s.completePage k v stream).chan = s.chan ∧ (s.completePage k v stream).line = s.line ∧
    (s.completePage k v stream).punch = s.punch ∧ (s.completePage k v stream).bend = s.bend ∧
    (s.completePage k v stream).sorter = s.sorter ∧ (s.completePage k v stream).inputs = s.inputs ∧
    (s.completePage k v stream).store.memory = s.store.memory ∧
    (s.completePage k v stream).reports.mask = s.reports.mask ∧
    (s.completePage k v stream).reports.seq = s.reports.seq := by
  simp only [State.completePage]
  split <;> simp

@[simp] theorem State.bandWritten_frame (j : WriteJob) (s : State) :
    (s.bandWritten j).pending = s.pending ∧ (s.bandWritten j).resetAsserted = s.resetAsserted ∧
    (s.bandWritten j).freeCount = s.freeCount ∧ (s.bandWritten j).passOwed = s.passOwed ∧
    (s.bandWritten j).clock = s.clock ∧ (s.bandWritten j).plates = s.plates ∧ (s.bandWritten j).sched = s.sched ∧
    (s.bandWritten j).chan = s.chan ∧ (s.bandWritten j).line = s.line ∧ (s.bandWritten j).punch = s.punch ∧
    (s.bandWritten j).bend = s.bend ∧ (s.bandWritten j).sorter = s.sorter ∧ (s.bandWritten j).inputs = s.inputs ∧
    (s.bandWritten j).store.memory = s.store.memory ∧ (s.bandWritten j).reports.mask = s.reports.mask ∧
    (s.bandWritten j).reports.seq = s.reports.seq ∧ (s.bandWritten j).link.requests = s.link.requests ∧
    (s.bandWritten j).link.replies = s.link.replies ∧ (s.bandWritten j).link.lane = s.link.lane ∧
    (s.bandWritten j).link.timing = s.link.timing := by
  simp only [State.bandWritten]
  split <;> simp

@[simp] theorem State.lineWritten_frame (j : WriteJob) (s : State) :
    (s.lineWritten j).pending = s.pending ∧ (s.lineWritten j).resetAsserted = s.resetAsserted ∧
    (s.lineWritten j).freeCount = s.freeCount ∧ (s.lineWritten j).passOwed = s.passOwed ∧
    (s.lineWritten j).clock = s.clock ∧ (s.lineWritten j).plates = s.plates ∧ (s.lineWritten j).sched = s.sched ∧
    (s.lineWritten j).chan = s.chan ∧ (s.lineWritten j).line = s.line ∧ (s.lineWritten j).punch = s.punch ∧
    (s.lineWritten j).bend = s.bend ∧ (s.lineWritten j).sorter = s.sorter ∧ (s.lineWritten j).inputs = s.inputs ∧
    (s.lineWritten j).reports.mask = s.reports.mask ∧ (s.lineWritten j).reports.seq = s.reports.seq ∧
    (s.lineWritten j).link.requests = s.link.requests ∧ (s.lineWritten j).link.replies = s.link.replies ∧
    (s.lineWritten j).link.lane = s.link.lane ∧ (s.lineWritten j).link.timing = s.link.timing := by
  simp only [State.lineWritten]
  split <;> simp

@[simp] theorem State.receiveExpires_frame (n : Nat) (s : State) :
    (s.receiveExpires n).pending = s.pending ∧ (s.receiveExpires n).resetAsserted = s.resetAsserted ∧
    (s.receiveExpires n).freeCount = s.freeCount ∧ (s.receiveExpires n).passOwed = s.passOwed ∧
    (s.receiveExpires n).clock = s.clock ∧ (s.receiveExpires n).plates = s.plates ∧
    (s.receiveExpires n).sched = s.sched ∧ (s.receiveExpires n).chan = s.chan ∧ (s.receiveExpires n).line = s.line ∧
    (s.receiveExpires n).punch = s.punch ∧ (s.receiveExpires n).bend = s.bend ∧ (s.receiveExpires n).sorter = s.sorter ∧
    (s.receiveExpires n).inputs = s.inputs ∧ (s.receiveExpires n).store.memory = s.store.memory ∧
    (s.receiveExpires n).reports.mask = s.reports.mask ∧ (s.receiveExpires n).reports.seq = s.reports.seq ∧
    (s.receiveExpires n).link.requests = s.link.requests ∧ (s.receiveExpires n).link.replies = s.link.replies ∧
    (s.receiveExpires n).link.lane = s.link.lane ∧ (s.receiveExpires n).link.timing = s.link.timing := by
  simp only [State.receiveExpires]
  repeat' split
  all_goals simp

@[simp] theorem State.discardAll_frame (l : List PageRecord) (s : State) :
    (s.discardAll l).pending = s.pending ∧ (s.discardAll l).resetAsserted = s.resetAsserted ∧
    (s.discardAll l).freeCount = s.freeCount ∧ (s.discardAll l).passOwed = s.passOwed ∧
    (s.discardAll l).clock = s.clock ∧ (s.discardAll l).link = s.link ∧ (s.discardAll l).plates = s.plates ∧
    (s.discardAll l).sched = s.sched ∧ (s.discardAll l).chan = s.chan ∧ (s.discardAll l).line = s.line ∧
    (s.discardAll l).punch = s.punch ∧ (s.discardAll l).bend = s.bend ∧ (s.discardAll l).sorter = s.sorter ∧
    (s.discardAll l).inputs = s.inputs ∧ (s.discardAll l).reports = s.reports ∧
    (s.discardAll l).store.memory = s.store.memory := by
  induction l generalizing s with
  | nil => simp [State.discardAll]
  | cons a l ih => simp [State.discardAll, ih]

@[simp] theorem State.restartPages_frame (s : State) :
    (s.restartPages).pending = s.pending ∧ (s.restartPages).resetAsserted = s.resetAsserted ∧
    (s.restartPages).freeCount = s.freeCount ∧ (s.restartPages).passOwed = s.passOwed ∧
    (s.restartPages).clock = s.clock ∧ (s.restartPages).link = s.link ∧ (s.restartPages).plates = s.plates ∧
    (s.restartPages).sched = s.sched ∧ (s.restartPages).chan = s.chan ∧ (s.restartPages).line = s.line ∧
    (s.restartPages).punch = s.punch ∧ (s.restartPages).bend = s.bend ∧ (s.restartPages).sorter = s.sorter ∧
    (s.restartPages).inputs = s.inputs ∧ (s.restartPages).reports = s.reports ∧
    (s.restartPages).store.memory = s.store.memory := by
  simp [State.restartPages]

end Sys2Proof.Machine
end

