-- ==== Sys2Proof/Laws/Builds.lean ====
section
/-! SUPPORT. Frames: what the operations of the Swath Composers, the Plate Composer, the Imager Sequencers and the Exposure Scheduler leave unchanged. -/

namespace Sys2Proof.Machine

@[simp] theorem rebindPosition_memory (k : PageKey) (v : Nat) (q : Position) (b : Binding) (t : Store) :
    (rebindPosition k v q b t).2.memory = t.memory := by
  unfold rebindPosition
  repeat' split
  all_goals simp

@[simp] theorem rebindPositions_memory (k : PageKey) (v : Nat) (qs : List Position) (bs : List Binding) (t : Store) :
    (rebindPositions k v qs bs t).2.memory = t.memory := by
  induction qs generalizing bs t with
  | nil => simp [rebindPositions]
  | cons q qs ih =>
    cases bs with
    | nil => simp [rebindPositions]
    | cons b bs => simp [rebindPositions, ih]

@[simp] theorem State.setChannel_frame (i : Imager) (c : Channel) (s : State) :
    (s.setChannel i c).pending = s.pending ∧ (s.setChannel i c).resetAsserted = s.resetAsserted ∧
    (s.setChannel i c).freeCount = s.freeCount ∧ (s.setChannel i c).passOwed = s.passOwed ∧
    (s.setChannel i c).clock = s.clock ∧ (s.setChannel i c).link = s.link ∧ (s.setChannel i c).rx = s.rx ∧
    (s.setChannel i c).store = s.store ∧ (s.setChannel i c).plates = s.plates ∧ (s.setChannel i c).sched = s.sched ∧
    (s.setChannel i c).line = s.line ∧ (s.setChannel i c).punch = s.punch ∧ (s.setChannel i c).bend = s.bend ∧
    (s.setChannel i c).sorter = s.sorter ∧ (s.setChannel i c).inputs = s.inputs ∧
    (s.setChannel i c).reports = s.reports := by
  and_intros <;> rfl

@[simp] theorem State.putComposer_frame (i : Imager) (r : Composer × Bool) (s : State) :
    (s.putComposer i r).pending = s.pending ∧ (s.putComposer i r).resetAsserted = s.resetAsserted ∧
    (s.putComposer i r).freeCount = s.freeCount ∧ (s.putComposer i r).passOwed = s.passOwed ∧
    (s.putComposer i r).clock = s.clock ∧ (s.putComposer i r).link = s.link ∧ (s.putComposer i r).rx = s.rx ∧
    (s.putComposer i r).plates = s.plates ∧ (s.putComposer i r).sched = s.sched ∧ (s.putComposer i r).line = s.line ∧
    (s.putComposer i r).punch = s.punch ∧ (s.putComposer i r).bend = s.bend ∧ (s.putComposer i r).sorter = s.sorter ∧
    (s.putComposer i r).inputs = s.inputs ∧ (s.putComposer i r).reports = s.reports ∧
    (s.putComposer i r).store.memory = s.store.memory := by
  simp only [State.putComposer]
  split <;> simp

@[simp] theorem State.endJob_frame (i : Imager) (s : State) :
    (s.endJob i).pending = s.pending ∧ (s.endJob i).resetAsserted = s.resetAsserted ∧
    (s.endJob i).freeCount = s.freeCount ∧ (s.endJob i).passOwed = s.passOwed ∧ (s.endJob i).clock = s.clock ∧
    (s.endJob i).link = s.link ∧ (s.endJob i).rx = s.rx ∧ (s.endJob i).plates = s.plates ∧
    (s.endJob i).sched = s.sched ∧ (s.endJob i).line = s.line ∧ (s.endJob i).punch = s.punch ∧
    (s.endJob i).bend = s.bend ∧ (s.endJob i).sorter = s.sorter ∧ (s.endJob i).inputs = s.inputs ∧
    (s.endJob i).reports = s.reports ∧ (s.endJob i).store.memory = s.store.memory := by
  simp [State.endJob]

@[simp] theorem State.segmentRead_frame (i : Imager) (s : State) :
    (s.segmentRead i).pending = s.pending ∧ (s.segmentRead i).resetAsserted = s.resetAsserted ∧
    (s.segmentRead i).freeCount = s.freeCount ∧ (s.segmentRead i).passOwed = s.passOwed ∧
    (s.segmentRead i).clock = s.clock ∧ (s.segmentRead i).link = s.link ∧ (s.segmentRead i).rx = s.rx ∧
    (s.segmentRead i).plates = s.plates ∧ (s.segmentRead i).sched = s.sched ∧ (s.segmentRead i).line = s.line ∧
    (s.segmentRead i).punch = s.punch ∧ (s.segmentRead i).bend = s.bend ∧ (s.segmentRead i).sorter = s.sorter ∧
    (s.segmentRead i).inputs = s.inputs ∧ (s.segmentRead i).reports = s.reports ∧
    (s.segmentRead i).store.memory = s.store.memory := by
  simp [State.segmentRead]

@[simp] theorem State.modifyEntry_frame (p : PlateId) (f : MapEntry → MapEntry) (s : State) :
    (s.modifyEntry p f).pending = s.pending ∧ (s.modifyEntry p f).resetAsserted = s.resetAsserted ∧
    (s.modifyEntry p f).freeCount = s.freeCount ∧ (s.modifyEntry p f).passOwed = s.passOwed ∧
    (s.modifyEntry p f).clock = s.clock ∧ (s.modifyEntry p f).link = s.link ∧ (s.modifyEntry p f).rx = s.rx ∧
    (s.modifyEntry p f).store = s.store ∧ (s.modifyEntry p f).sched = s.sched ∧ (s.modifyEntry p f).chan = s.chan ∧
    (s.modifyEntry p f).line = s.line ∧ (s.modifyEntry p f).punch = s.punch ∧ (s.modifyEntry p f).bend = s.bend ∧
    (s.modifyEntry p f).sorter = s.sorter ∧ (s.modifyEntry p f).inputs = s.inputs ∧
    (s.modifyEntry p f).reports = s.reports ∧ (s.modifyEntry p f).plates.sizes = s.plates.sizes ∧
    (s.modifyEntry p f).plates.builds = s.plates.builds ∧ (s.modifyEntry p f).plates.queue = s.plates.queue ∧
    (s.modifyEntry p f).plates.pendingList = s.plates.pendingList := by
  and_intros <;> rfl

@[simp] theorem State.modifyBuild_frame (n : Nat) (f : Build → Build) (s : State) :
    (s.modifyBuild n f).pending = s.pending ∧ (s.modifyBuild n f).resetAsserted = s.resetAsserted ∧
    (s.modifyBuild n f).freeCount = s.freeCount ∧ (s.modifyBuild n f).passOwed = s.passOwed ∧
    (s.modifyBuild n f).clock = s.clock ∧ (s.modifyBuild n f).link = s.link ∧ (s.modifyBuild n f).rx = s.rx ∧
    (s.modifyBuild n f).store = s.store ∧ (s.modifyBuild n f).sched = s.sched ∧ (s.modifyBuild n f).chan = s.chan ∧
    (s.modifyBuild n f).line = s.line ∧ (s.modifyBuild n f).punch = s.punch ∧ (s.modifyBuild n f).bend = s.bend ∧
    (s.modifyBuild n f).sorter = s.sorter ∧ (s.modifyBuild n f).inputs = s.inputs ∧
    (s.modifyBuild n f).reports = s.reports ∧ (s.modifyBuild n f).plates.sizes = s.plates.sizes ∧
    (s.modifyBuild n f).plates.map = s.plates.map ∧ (s.modifyBuild n f).plates.queue = s.plates.queue ∧
    (s.modifyBuild n f).plates.pendingList = s.plates.pendingList := by
  and_intros <;> rfl

@[simp] theorem State.joinQueue_frame (n : Nat) (s : State) :
    (s.joinQueue n).pending = s.pending ∧ (s.joinQueue n).resetAsserted = s.resetAsserted ∧
    (s.joinQueue n).freeCount = s.freeCount ∧ (s.joinQueue n).clock = s.clock ∧ (s.joinQueue n).link = s.link ∧
    (s.joinQueue n).rx = s.rx ∧ (s.joinQueue n).store = s.store ∧ (s.joinQueue n).sched = s.sched ∧
    (s.joinQueue n).chan = s.chan ∧ (s.joinQueue n).line = s.line ∧ (s.joinQueue n).punch = s.punch ∧
    (s.joinQueue n).bend = s.bend ∧ (s.joinQueue n).sorter = s.sorter ∧ (s.joinQueue n).inputs = s.inputs ∧
    (s.joinQueue n).reports = s.reports ∧ (s.joinQueue n).plates.sizes = s.plates.sizes ∧
    (s.joinQueue n).plates.map = s.plates.map ∧ (s.joinQueue n).plates.builds = s.plates.builds ∧
    (s.joinQueue n).plates.pendingList = s.plates.pendingList := by
  and_intros <;> rfl

@[simp] theorem State.rejoinQueue_frame (n : Nat) (s : State) :
    (s.rejoinQueue n).pending = s.pending ∧ (s.rejoinQueue n).resetAsserted = s.resetAsserted ∧
    (s.rejoinQueue n).freeCount = s.freeCount ∧ (s.rejoinQueue n).clock = s.clock ∧ (s.rejoinQueue n).link = s.link ∧
    (s.rejoinQueue n).rx = s.rx ∧ (s.rejoinQueue n).store = s.store ∧ (s.rejoinQueue n).sched = s.sched ∧
    (s.rejoinQueue n).chan = s.chan ∧ (s.rejoinQueue n).line = s.line ∧ (s.rejoinQueue n).punch = s.punch ∧
    (s.rejoinQueue n).bend = s.bend ∧ (s.rejoinQueue n).sorter = s.sorter ∧ (s.rejoinQueue n).inputs = s.inputs ∧
    (s.rejoinQueue n).reports = s.reports ∧ (s.rejoinQueue n).plates.sizes = s.plates.sizes ∧
    (s.rejoinQueue n).plates.map = s.plates.map ∧ (s.rejoinQueue n).plates.builds = s.plates.builds ∧
    (s.rejoinQueue n).plates.pendingList = s.plates.pendingList := by
  and_intros <;> rfl

@[simp] theorem State.createBuild_frame (e : MapEntry) (w : Option (PageKey × Nat)) (n : Nat) (s : State) :
    (s.createBuild e w n).pending = s.pending ∧ (s.createBuild e w n).resetAsserted = s.resetAsserted ∧
    (s.createBuild e w n).freeCount = s.freeCount ∧ (s.createBuild e w n).clock = s.clock ∧
    (s.createBuild e w n).link = s.link ∧ (s.createBuild e w n).rx = s.rx ∧ (s.createBuild e w n).sched = s.sched ∧
    (s.createBuild e w n).chan = s.chan ∧ (s.createBuild e w n).line = s.line ∧
    (s.createBuild e w n).punch = s.punch ∧ (s.createBuild e w n).bend = s.bend ∧
    (s.createBuild e w n).sorter = s.sorter ∧ (s.createBuild e w n).inputs = s.inputs ∧
    (s.createBuild e w n).reports = s.reports ∧ (s.createBuild e w n).store.memory = s.store.memory ∧
    (s.createBuild e w n).plates.sizes = s.plates.sizes := by
  simp only [State.createBuild]
  split <;> simp

@[simp] theorem State.leavePending_frame (p : PlateId) (s : State) :
    (s.leavePending p).pending = s.pending ∧ (s.leavePending p).resetAsserted = s.resetAsserted ∧
    (s.leavePending p).freeCount = s.freeCount ∧ (s.leavePending p).passOwed = s.passOwed ∧
    (s.leavePending p).clock = s.clock ∧ (s.leavePending p).link = s.link ∧ (s.leavePending p).rx = s.rx ∧
    (s.leavePending p).store = s.store ∧ (s.leavePending p).sched = s.sched ∧ (s.leavePending p).chan = s.chan ∧
    (s.leavePending p).line = s.line ∧ (s.leavePending p).punch = s.punch ∧ (s.leavePending p).bend = s.bend ∧
    (s.leavePending p).sorter = s.sorter ∧ (s.leavePending p).inputs = s.inputs ∧
    (s.leavePending p).reports = s.reports ∧ (s.leavePending p).plates.sizes = s.plates.sizes ∧
    (s.leavePending p).plates.map = s.plates.map ∧ (s.leavePending p).plates.builds = s.plates.builds ∧
    (s.leavePending p).plates.queue = s.plates.queue := by
  and_intros <;> rfl

@[simp] theorem State.joinPending_frame (p : PlateId) (s : State) :
    (s.joinPending p).pending = s.pending ∧ (s.joinPending p).resetAsserted = s.resetAsserted ∧
    (s.joinPending p).freeCount = s.freeCount ∧ (s.joinPending p).passOwed = s.passOwed ∧
    (s.joinPending p).clock = s.clock ∧ (s.joinPending p).link = s.link ∧ (s.joinPending p).rx = s.rx ∧
    (s.joinPending p).store = s.store ∧ (s.joinPending p).sched = s.sched ∧ (s.joinPending p).chan = s.chan ∧
    (s.joinPending p).line = s.line ∧ (s.joinPending p).punch = s.punch ∧ (s.joinPending p).bend = s.bend ∧
    (s.joinPending p).sorter = s.sorter ∧ (s.joinPending p).inputs = s.inputs ∧ (s.joinPending p).reports = s.reports ∧
    (s.joinPending p).plates.sizes = s.plates.sizes ∧ (s.joinPending p).plates.map = s.plates.map ∧
    (s.joinPending p).plates.builds = s.plates.builds ∧ (s.joinPending p).plates.queue = s.plates.queue := by
  simp only [State.joinPending]
  split <;> simp

@[simp] theorem State.needCheck_frame (p : PlateId) (w : Option (PageKey × Nat)) (s : State) :
    (s.needCheck p w).pending = s.pending ∧ (s.needCheck p w).resetAsserted = s.resetAsserted ∧
    (s.needCheck p w).freeCount = s.freeCount ∧ (s.needCheck p w).clock = s.clock ∧ (s.needCheck p w).link = s.link ∧
    (s.needCheck p w).rx = s.rx ∧ (s.needCheck p w).sched = s.sched ∧ (s.needCheck p w).chan = s.chan ∧
    (s.needCheck p w).line = s.line ∧ (s.needCheck p w).punch = s.punch ∧ (s.needCheck p w).bend = s.bend ∧
    (s.needCheck p w).sorter = s.sorter ∧ (s.needCheck p w).inputs = s.inputs ∧
    (s.needCheck p w).reports = s.reports ∧ (s.needCheck p w).store.memory = s.store.memory ∧
    (s.needCheck p w).plates.sizes = s.plates.sizes := by
  simp only [State.needCheck]
  repeat' split
  all_goals simp

@[simp] theorem State.needChecks_frame (l : List PlateId) (s : State) :
    (s.needChecks l).pending = s.pending ∧ (s.needChecks l).resetAsserted = s.resetAsserted ∧
    (s.needChecks l).freeCount = s.freeCount ∧ (s.needChecks l).clock = s.clock ∧ (s.needChecks l).link = s.link ∧
    (s.needChecks l).rx = s.rx ∧ (s.needChecks l).sched = s.sched ∧ (s.needChecks l).chan = s.chan ∧
    (s.needChecks l).line = s.line ∧ (s.needChecks l).punch = s.punch ∧ (s.needChecks l).bend = s.bend ∧
    (s.needChecks l).sorter = s.sorter ∧ (s.needChecks l).inputs = s.inputs ∧ (s.needChecks l).reports = s.reports ∧
    (s.needChecks l).store.memory = s.store.memory ∧ (s.needChecks l).plates.sizes = s.plates.sizes := by
  induction l generalizing s with
  | nil => simp [State.needChecks]
  | cons a l ih => simp [State.needChecks, ih]

@[simp] theorem State.workPendingFrom_frame (l : List PlateId) (s : State) :
    (s.workPendingFrom l).pending = s.pending ∧ (s.workPendingFrom l).resetAsserted = s.resetAsserted ∧
    (s.workPendingFrom l).freeCount = s.freeCount ∧ (s.workPendingFrom l).clock = s.clock ∧
    (s.workPendingFrom l).link = s.link ∧ (s.workPendingFrom l).rx = s.rx ∧ (s.workPendingFrom l).sched = s.sched ∧
    (s.workPendingFrom l).chan = s.chan ∧ (s.workPendingFrom l).line = s.line ∧
    (s.workPendingFrom l).punch = s.punch ∧ (s.workPendingFrom l).bend = s.bend ∧
    (s.workPendingFrom l).sorter = s.sorter ∧ (s.workPendingFrom l).inputs = s.inputs ∧
    (s.workPendingFrom l).reports = s.reports ∧ (s.workPendingFrom l).store.memory = s.store.memory ∧
    (s.workPendingFrom l).plates.sizes = s.plates.sizes := by
  induction l generalizing s with
  | nil => simp [State.workPendingFrom]
  | cons a l ih =>
    simp only [State.workPendingFrom]
    split <;> simp [ih]

@[simp] theorem State.workPending_frame (s : State) :
    (s.workPending).pending = s.pending ∧ (s.workPending).resetAsserted = s.resetAsserted ∧
    (s.workPending).freeCount = s.freeCount ∧ (s.workPending).clock = s.clock ∧ (s.workPending).link = s.link ∧
    (s.workPending).rx = s.rx ∧ (s.workPending).sched = s.sched ∧ (s.workPending).chan = s.chan ∧
    (s.workPending).line = s.line ∧ (s.workPending).punch = s.punch ∧ (s.workPending).bend = s.bend ∧
    (s.workPending).sorter = s.sorter ∧ (s.workPending).inputs = s.inputs ∧ (s.workPending).reports = s.reports ∧
    (s.workPending).store.memory = s.store.memory ∧ (s.workPending).plates.sizes = s.plates.sizes := by
  simp [State.workPending]

@[simp] theorem State.freeBuild_frame (n : Nat) (s : State) :
    (s.freeBuild n).pending = s.pending ∧ (s.freeBuild n).resetAsserted = s.resetAsserted ∧
    (s.freeBuild n).freeCount = s.freeCount ∧ (s.freeBuild n).passOwed = s.passOwed ∧ (s.freeBuild n).clock = s.clock ∧
    (s.freeBuild n).link = s.link ∧ (s.freeBuild n).rx = s.rx ∧ (s.freeBuild n).store = s.store ∧
    (s.freeBuild n).sched = s.sched ∧ (s.freeBuild n).chan = s.chan ∧ (s.freeBuild n).line = s.line ∧
    (s.freeBuild n).punch = s.punch ∧ (s.freeBuild n).bend = s.bend ∧ (s.freeBuild n).sorter = s.sorter ∧
    (s.freeBuild n).inputs = s.inputs ∧ (s.freeBuild n).reports = s.reports ∧
    (s.freeBuild n).plates.sizes = s.plates.sizes ∧ (s.freeBuild n).plates.map = s.plates.map ∧
    (s.freeBuild n).plates.pendingList = s.plates.pendingList := by
  and_intros <;> rfl

@[simp] theorem State.removeBuild_frame (b : Build) (s : State) :
    (s.removeBuild b).pending = s.pending ∧ (s.removeBuild b).resetAsserted = s.resetAsserted ∧
    (s.removeBuild b).freeCount = s.freeCount ∧ (s.removeBuild b).clock = s.clock ∧ (s.removeBuild b).link = s.link ∧
    (s.removeBuild b).rx = s.rx ∧ (s.removeBuild b).sched = s.sched ∧ (s.removeBuild b).chan = s.chan ∧
    (s.removeBuild b).line = s.line ∧ (s.removeBuild b).punch = s.punch ∧ (s.removeBuild b).bend = s.bend ∧
    (s.removeBuild b).sorter = s.sorter ∧ (s.removeBuild b).inputs = s.inputs ∧
    (s.removeBuild b).reports = s.reports ∧ (s.removeBuild b).store.memory = s.store.memory ∧
    (s.removeBuild b).plates.sizes = s.plates.sizes := by
  simp [State.removeBuild]

@[simp] theorem State.giveUpBuild_frame (n : Nat) (s : State) :
    (s.giveUpBuild n).pending = s.pending ∧ (s.giveUpBuild n).resetAsserted = s.resetAsserted ∧
    (s.giveUpBuild n).freeCount = s.freeCount ∧ (s.giveUpBuild n).clock = s.clock ∧ (s.giveUpBuild n).link = s.link ∧
    (s.giveUpBuild n).rx = s.rx ∧ (s.giveUpBuild n).sched = s.sched ∧ (s.giveUpBuild n).chan = s.chan ∧
    (s.giveUpBuild n).line = s.line ∧ (s.giveUpBuild n).punch = s.punch ∧ (s.giveUpBuild n).bend = s.bend ∧
    (s.giveUpBuild n).sorter = s.sorter ∧ (s.giveUpBuild n).inputs = s.inputs ∧
    (s.giveUpBuild n).reports = s.reports ∧ (s.giveUpBuild n).store.memory = s.store.memory ∧
    (s.giveUpBuild n).plates.sizes = s.plates.sizes := by
  simp only [State.giveUpBuild]
  repeat' split
  all_goals simp

@[simp] theorem State.rebindBuild_frame (e : MapEntry) (b : Build) (k : PageKey) (v : Nat) (s : State) :
    (s.rebindBuild e b k v).pending = s.pending ∧ (s.rebindBuild e b k v).resetAsserted = s.resetAsserted ∧
    (s.rebindBuild e b k v).freeCount = s.freeCount ∧ (s.rebindBuild e b k v).clock = s.clock ∧
    (s.rebindBuild e b k v).link = s.link ∧ (s.rebindBuild e b k v).rx = s.rx ∧
    (s.rebindBuild e b k v).sched = s.sched ∧ (s.rebindBuild e b k v).chan = s.chan ∧
    (s.rebindBuild e b k v).line = s.line ∧ (s.rebindBuild e b k v).punch = s.punch ∧
    (s.rebindBuild e b k v).bend = s.bend ∧ (s.rebindBuild e b k v).sorter = s.sorter ∧
    (s.rebindBuild e b k v).inputs = s.inputs ∧ (s.rebindBuild e b k v).reports = s.reports ∧
    (s.rebindBuild e b k v).store.memory = s.store.memory ∧ (s.rebindBuild e b k v).plates.sizes = s.plates.sizes := by
  simp only [State.rebindBuild]
  split <;> simp

@[simp] theorem State.deliver_frame (p : PlateId) (l : List Binding) (s : State) :
    (s.deliver p l).pending = s.pending ∧ (s.deliver p l).resetAsserted = s.resetAsserted ∧
    (s.deliver p l).freeCount = s.freeCount ∧ (s.deliver p l).passOwed = s.passOwed ∧ (s.deliver p l).clock = s.clock ∧
    (s.deliver p l).link = s.link ∧ (s.deliver p l).rx = s.rx ∧ (s.deliver p l).store = s.store ∧
    (s.deliver p l).sched = s.sched ∧ (s.deliver p l).chan = s.chan ∧ (s.deliver p l).line = s.line ∧
    (s.deliver p l).punch = s.punch ∧ (s.deliver p l).bend = s.bend ∧ (s.deliver p l).sorter = s.sorter ∧
    (s.deliver p l).inputs = s.inputs ∧ (s.deliver p l).reports = s.reports ∧
    (s.deliver p l).plates.sizes = s.plates.sizes ∧ (s.deliver p l).plates.builds = s.plates.builds ∧
    (s.deliver p l).plates.queue = s.plates.queue ∧ (s.deliver p l).plates.pendingList = s.plates.pendingList := by
  simp [State.deliver]

@[simp] theorem State.clearImaged_frame (p : PlateId) (s : State) :
    (s.clearImaged p).pending = s.pending ∧ (s.clearImaged p).resetAsserted = s.resetAsserted ∧
    (s.clearImaged p).freeCount = s.freeCount ∧ (s.clearImaged p).passOwed = s.passOwed ∧
    (s.clearImaged p).clock = s.clock ∧ (s.clearImaged p).link = s.link ∧ (s.clearImaged p).rx = s.rx ∧
    (s.clearImaged p).store = s.store ∧ (s.clearImaged p).sched = s.sched ∧ (s.clearImaged p).chan = s.chan ∧
    (s.clearImaged p).line = s.line ∧ (s.clearImaged p).punch = s.punch ∧ (s.clearImaged p).bend = s.bend ∧
    (s.clearImaged p).sorter = s.sorter ∧ (s.clearImaged p).inputs = s.inputs ∧ (s.clearImaged p).reports = s.reports ∧
    (s.clearImaged p).plates.sizes = s.plates.sizes ∧ (s.clearImaged p).plates.builds = s.plates.builds ∧
    (s.clearImaged p).plates.queue = s.plates.queue ∧ (s.clearImaged p).plates.pendingList = s.plates.pendingList := by
  simp [State.clearImaged]

@[simp] theorem State.replateAll_frame (l : List PlateId) (s : State) :
    (s.replateAll l).pending = s.pending ∧ (s.replateAll l).resetAsserted = s.resetAsserted ∧
    (s.replateAll l).freeCount = s.freeCount ∧ (s.replateAll l).clock = s.clock ∧ (s.replateAll l).link = s.link ∧
    (s.replateAll l).rx = s.rx ∧ (s.replateAll l).sched = s.sched ∧ (s.replateAll l).chan = s.chan ∧
    (s.replateAll l).line = s.line ∧ (s.replateAll l).punch = s.punch ∧ (s.replateAll l).bend = s.bend ∧
    (s.replateAll l).sorter = s.sorter ∧ (s.replateAll l).inputs = s.inputs ∧ (s.replateAll l).reports = s.reports ∧
    (s.replateAll l).store.memory = s.store.memory ∧ (s.replateAll l).plates.sizes = s.plates.sizes := by
  induction l generalizing s with
  | nil => simp [State.replateAll]
  | cons a l ih => simp [State.replateAll, ih]

@[simp] theorem State.modifySeq_frame (i : Imager) (f : Sequencer → Sequencer) (s : State) :
    (s.modifySeq i f).pending = s.pending ∧ (s.modifySeq i f).resetAsserted = s.resetAsserted ∧
    (s.modifySeq i f).freeCount = s.freeCount ∧ (s.modifySeq i f).passOwed = s.passOwed ∧
    (s.modifySeq i f).clock = s.clock ∧ (s.modifySeq i f).link = s.link ∧ (s.modifySeq i f).rx = s.rx ∧
    (s.modifySeq i f).store = s.store ∧ (s.modifySeq i f).plates = s.plates ∧ (s.modifySeq i f).sched = s.sched ∧
    (s.modifySeq i f).line = s.line ∧ (s.modifySeq i f).punch = s.punch ∧ (s.modifySeq i f).bend = s.bend ∧
    (s.modifySeq i f).sorter = s.sorter ∧ (s.modifySeq i f).inputs = s.inputs ∧
    (s.modifySeq i f).reports = s.reports := by
  simp [State.modifySeq]

@[simp] theorem State.modifyOut_frame (i : Imager) (f : ImagerOut → ImagerOut) (s : State) :
    (s.modifyOut i f).pending = s.pending ∧ (s.modifyOut i f).resetAsserted = s.resetAsserted ∧
    (s.modifyOut i f).freeCount = s.freeCount ∧ (s.modifyOut i f).passOwed = s.passOwed ∧
    (s.modifyOut i f).clock = s.clock ∧ (s.modifyOut i f).link = s.link ∧ (s.modifyOut i f).rx = s.rx ∧
    (s.modifyOut i f).store = s.store ∧ (s.modifyOut i f).plates = s.plates ∧ (s.modifyOut i f).sched = s.sched ∧
    (s.modifyOut i f).line = s.line ∧ (s.modifyOut i f).punch = s.punch ∧ (s.modifyOut i f).bend = s.bend ∧
    (s.modifyOut i f).sorter = s.sorter ∧ (s.modifyOut i f).inputs = s.inputs ∧
    (s.modifyOut i f).reports = s.reports := by
  simp [State.modifyOut]

@[simp] theorem State.buildExits_frame (n : Nat) (faulty : Bool) (s : State) :
    (s.buildExits n faulty).pending = s.pending ∧ (s.buildExits n faulty).resetAsserted = s.resetAsserted ∧
    (s.buildExits n faulty).freeCount = s.freeCount ∧ (s.buildExits n faulty).clock = s.clock ∧
    (s.buildExits n faulty).link = s.link ∧ (s.buildExits n faulty).rx = s.rx ∧
    (s.buildExits n faulty).sched = s.sched ∧ (s.buildExits n faulty).chan = s.chan ∧
    (s.buildExits n faulty).line = s.line ∧ (s.buildExits n faulty).punch = s.punch ∧
    (s.buildExits n faulty).bend = s.bend ∧ (s.buildExits n faulty).sorter = s.sorter ∧
    (s.buildExits n faulty).inputs = s.inputs ∧ (s.buildExits n faulty).reports = s.reports ∧
    (s.buildExits n faulty).store.memory = s.store.memory ∧ (s.buildExits n faulty).plates.sizes = s.plates.sizes := by
  simp only [State.buildExits]
  repeat' split
  all_goals simp

@[simp] theorem State.offerExit_frame (i : Imager) (n : Nat) (s : State) :
    (s.offerExit i n).pending = s.pending ∧ (s.offerExit i n).resetAsserted = s.resetAsserted ∧
    (s.offerExit i n).freeCount = s.freeCount ∧ (s.offerExit i n).passOwed = s.passOwed ∧
    (s.offerExit i n).clock = s.clock ∧ (s.offerExit i n).link = s.link ∧ (s.offerExit i n).rx = s.rx ∧
    (s.offerExit i n).store = s.store ∧ (s.offerExit i n).plates = s.plates ∧ (s.offerExit i n).sched = s.sched ∧
    (s.offerExit i n).chan = s.chan ∧ (s.offerExit i n).punch = s.punch ∧ (s.offerExit i n).bend = s.bend ∧
    (s.offerExit i n).sorter = s.sorter ∧ (s.offerExit i n).inputs = s.inputs ∧ (s.offerExit i n).reports = s.reports ∧
    (s.offerExit i n).line.state = s.line.state ∧ (s.offerExit i n).line.items = s.line.items ∧
    (s.offerExit i n).line.counter = s.line.counter ∧ (s.offerExit i n).line.halt = s.line.halt ∧
    (s.offerExit i n).line.table = s.line.table ∧ (s.offerExit i n).line.out = s.line.out := by
  and_intros <;> rfl

@[simp] theorem State.endExposure_frame (i : Imager) (k : EndKind) (s : State) :
    (s.endExposure i k).pending = s.pending ∧ (s.endExposure i k).resetAsserted = s.resetAsserted ∧
    (s.endExposure i k).freeCount = s.freeCount ∧ (s.endExposure i k).clock = s.clock ∧
    (s.endExposure i k).link = s.link ∧ (s.endExposure i k).rx = s.rx ∧ (s.endExposure i k).sched = s.sched ∧
    (s.endExposure i k).punch = s.punch ∧ (s.endExposure i k).bend = s.bend ∧ (s.endExposure i k).sorter = s.sorter ∧
    (s.endExposure i k).inputs = s.inputs ∧ (s.endExposure i k).store.memory = s.store.memory ∧
    (s.endExposure i k).reports.mask = s.reports.mask ∧ (s.endExposure i k).reports.seq = s.reports.seq ∧
    (s.endExposure i k).plates.sizes = s.plates.sizes ∧ (s.endExposure i k).line.state = s.line.state ∧
    (s.endExposure i k).line.items = s.line.items ∧ (s.endExposure i k).line.counter = s.line.counter ∧
    (s.endExposure i k).line.halt = s.line.halt ∧ (s.endExposure i k).line.table = s.line.table ∧
    (s.endExposure i k).line.out = s.line.out := by
  simp only [State.endExposure]
  split <;> simp

@[simp] theorem State.retireHeld_frame (i : Imager) (s : State) :
    (s.retireHeld i).pending = s.pending ∧ (s.retireHeld i).resetAsserted = s.resetAsserted ∧
    (s.retireHeld i).freeCount = s.freeCount ∧ (s.retireHeld i).clock = s.clock ∧ (s.retireHeld i).link = s.link ∧
    (s.retireHeld i).rx = s.rx ∧ (s.retireHeld i).sched = s.sched ∧ (s.retireHeld i).punch = s.punch ∧
    (s.retireHeld i).bend = s.bend ∧ (s.retireHeld i).sorter = s.sorter ∧ (s.retireHeld i).inputs = s.inputs ∧
    (s.retireHeld i).store.memory = s.store.memory ∧ (s.retireHeld i).reports.mask = s.reports.mask ∧
    (s.retireHeld i).reports.seq = s.reports.seq ∧ (s.retireHeld i).plates.sizes = s.plates.sizes ∧
    (s.retireHeld i).line.state = s.line.state ∧ (s.retireHeld i).line.items = s.line.items ∧
    (s.retireHeld i).line.counter = s.line.counter ∧ (s.retireHeld i).line.halt = s.line.halt ∧
    (s.retireHeld i).line.table = s.line.table ∧ (s.retireHeld i).line.out = s.line.out := by
  simp only [State.retireHeld]
  repeat' split
  all_goals simp

@[simp] theorem State.enterLoading_frame (i : Imager) (n : Nat) (j : Job) (s : State) :
    (s.enterLoading i n j).pending = s.pending ∧ (s.enterLoading i n j).resetAsserted = s.resetAsserted ∧
    (s.enterLoading i n j).freeCount = s.freeCount ∧ (s.enterLoading i n j).passOwed = s.passOwed ∧
    (s.enterLoading i n j).clock = s.clock ∧ (s.enterLoading i n j).link = s.link ∧ (s.enterLoading i n j).rx = s.rx ∧
    (s.enterLoading i n j).plates = s.plates ∧ (s.enterLoading i n j).sched = s.sched ∧
    (s.enterLoading i n j).line = s.line ∧ (s.enterLoading i n j).punch = s.punch ∧
    (s.enterLoading i n j).bend = s.bend ∧ (s.enterLoading i n j).sorter = s.sorter ∧
    (s.enterLoading i n j).inputs = s.inputs ∧ (s.enterLoading i n j).reports = s.reports ∧
    (s.enterLoading i n j).store.memory = s.store.memory := by
  simp [State.enterLoading]

@[simp] theorem State.enterSpinup_frame (i : Imager) (s : State) :
    (s.enterSpinup i).pending = s.pending ∧ (s.enterSpinup i).resetAsserted = s.resetAsserted ∧
    (s.enterSpinup i).freeCount = s.freeCount ∧ (s.enterSpinup i).passOwed = s.passOwed ∧
    (s.enterSpinup i).clock = s.clock ∧ (s.enterSpinup i).link = s.link ∧ (s.enterSpinup i).rx = s.rx ∧
    (s.enterSpinup i).store = s.store ∧ (s.enterSpinup i).plates = s.plates ∧ (s.enterSpinup i).sched = s.sched ∧
    (s.enterSpinup i).line = s.line ∧ (s.enterSpinup i).punch = s.punch ∧ (s.enterSpinup i).bend = s.bend ∧
    (s.enterSpinup i).sorter = s.sorter ∧ (s.enterSpinup i).inputs = s.inputs ∧
    (s.enterSpinup i).reports = s.reports := by
  simp [State.enterSpinup]

@[simp] theorem State.clamped_frame (i : Imager) (s : State) :
    (s.clamped i).pending = s.pending ∧ (s.clamped i).resetAsserted = s.resetAsserted ∧
    (s.clamped i).freeCount = s.freeCount ∧ (s.clamped i).clock = s.clock ∧ (s.clamped i).link = s.link ∧
    (s.clamped i).rx = s.rx ∧ (s.clamped i).sched = s.sched ∧ (s.clamped i).punch = s.punch ∧
    (s.clamped i).bend = s.bend ∧ (s.clamped i).sorter = s.sorter ∧ (s.clamped i).inputs = s.inputs ∧
    (s.clamped i).store.memory = s.store.memory ∧ (s.clamped i).reports.mask = s.reports.mask ∧
    (s.clamped i).reports.seq = s.reports.seq ∧ (s.clamped i).line.items = s.line.items ∧
    (s.clamped i).line.state = s.line.state := by
  simp only [State.clamped]
  repeat' split
  all_goals simp

@[simp] theorem State.enterFault_frame (i : Imager) (c : FaultCause) (p : Option (PlateId × Nat)) (s : State) :
    (s.enterFault i c p).pending = s.pending ∧ (s.enterFault i c p).resetAsserted = s.resetAsserted ∧
    (s.enterFault i c p).freeCount = s.freeCount ∧ (s.enterFault i c p).passOwed = s.passOwed ∧
    (s.enterFault i c p).clock = s.clock ∧ (s.enterFault i c p).link = s.link ∧ (s.enterFault i c p).rx = s.rx ∧
    (s.enterFault i c p).plates = s.plates ∧ (s.enterFault i c p).sched = s.sched ∧ (s.enterFault i c p).line = s.line ∧
    (s.enterFault i c p).punch = s.punch ∧ (s.enterFault i c p).bend = s.bend ∧ (s.enterFault i c p).sorter = s.sorter ∧
    (s.enterFault i c p).inputs = s.inputs ∧ (s.enterFault i c p).store.memory = s.store.memory ∧
    (s.enterFault i c p).reports.mask = s.reports.mask ∧ (s.enterFault i c p).reports.seq = s.reports.seq ∧
    (s.enterFault i c p).reports.events = s.reports.events := by
  simp [State.enterFault]

@[simp] theorem State.faultAndGiveUp_frame (i : Imager) (c : FaultCause) (s : State) :
    (s.faultAndGiveUp i c).pending = s.pending ∧ (s.faultAndGiveUp i c).resetAsserted = s.resetAsserted ∧
    (s.faultAndGiveUp i c).freeCount = s.freeCount ∧ (s.faultAndGiveUp i c).clock = s.clock ∧
    (s.faultAndGiveUp i c).link = s.link ∧ (s.faultAndGiveUp i c).rx = s.rx ∧
    (s.faultAndGiveUp i c).sched = s.sched ∧ (s.faultAndGiveUp i c).line = s.line ∧
    (s.faultAndGiveUp i c).punch = s.punch ∧ (s.faultAndGiveUp i c).bend = s.bend ∧
    (s.faultAndGiveUp i c).sorter = s.sorter ∧ (s.faultAndGiveUp i c).inputs = s.inputs ∧
    (s.faultAndGiveUp i c).store.memory = s.store.memory ∧ (s.faultAndGiveUp i c).reports.mask = s.reports.mask ∧
    (s.faultAndGiveUp i c).reports.seq = s.reports.seq ∧ (s.faultAndGiveUp i c).reports.events = s.reports.events := by
  simp only [State.faultAndGiveUp]
  split <;> simp

@[simp] theorem State.loadExpires_frame (i : Imager) (s : State) :
    (s.loadExpires i).pending = s.pending ∧ (s.loadExpires i).resetAsserted = s.resetAsserted ∧
    (s.loadExpires i).freeCount = s.freeCount ∧ (s.loadExpires i).clock = s.clock ∧ (s.loadExpires i).link = s.link ∧
    (s.loadExpires i).rx = s.rx ∧ (s.loadExpires i).sched = s.sched ∧ (s.loadExpires i).line = s.line ∧
    (s.loadExpires i).punch = s.punch ∧ (s.loadExpires i).bend = s.bend ∧ (s.loadExpires i).sorter = s.sorter ∧
    (s.loadExpires i).inputs = s.inputs ∧ (s.loadExpires i).store.memory = s.store.memory ∧
    (s.loadExpires i).reports.mask = s.reports.mask ∧ (s.loadExpires i).reports.seq = s.reports.seq ∧
    (s.loadExpires i).reports.events = s.reports.events := by
  simp only [State.loadExpires]
  split <;> simp

@[simp] theorem State.spinupExpires_frame (i : Imager) (s : State) :
    (s.spinupExpires i).pending = s.pending ∧ (s.spinupExpires i).resetAsserted = s.resetAsserted ∧
    (s.spinupExpires i).freeCount = s.freeCount ∧ (s.spinupExpires i).clock = s.clock ∧
    (s.spinupExpires i).link = s.link ∧ (s.spinupExpires i).rx = s.rx ∧ (s.spinupExpires i).sched = s.sched ∧
    (s.spinupExpires i).line = s.line ∧ (s.spinupExpires i).punch = s.punch ∧ (s.spinupExpires i).bend = s.bend ∧
    (s.spinupExpires i).sorter = s.sorter ∧ (s.spinupExpires i).inputs = s.inputs ∧
    (s.spinupExpires i).store.memory = s.store.memory ∧ (s.spinupExpires i).reports.mask = s.reports.mask ∧
    (s.spinupExpires i).reports.seq = s.reports.seq ∧ (s.spinupExpires i).reports.events = s.reports.events := by
  simp only [State.spinupExpires]
  split <;> simp

@[simp] theorem State.writeOrSkip_frame (i : Imager) (v : Bool) (s : State) :
    (s.writeOrSkip i v).pending = s.pending ∧ (s.writeOrSkip i v).resetAsserted = s.resetAsserted ∧
    (s.writeOrSkip i v).freeCount = s.freeCount ∧ (s.writeOrSkip i v).clock = s.clock ∧
    (s.writeOrSkip i v).link = s.link ∧ (s.writeOrSkip i v).rx = s.rx ∧ (s.writeOrSkip i v).sched = s.sched ∧
    (s.writeOrSkip i v).punch = s.punch ∧ (s.writeOrSkip i v).bend = s.bend ∧ (s.writeOrSkip i v).sorter = s.sorter ∧
    (s.writeOrSkip i v).inputs = s.inputs ∧ (s.writeOrSkip i v).store.memory = s.store.memory ∧
    (s.writeOrSkip i v).reports.mask = s.reports.mask ∧ (s.writeOrSkip i v).reports.seq = s.reports.seq ∧
    (s.writeOrSkip i v).line.items = s.line.items ∧ (s.writeOrSkip i v).line.state = s.line.state := by
  simp only [State.writeOrSkip]
  repeat' split
  all_goals simp

@[simp] theorem State.orderStep_frame (i : Imager) (s : State) :
    (s.orderStep i).pending = s.pending ∧ (s.orderStep i).resetAsserted = s.resetAsserted ∧
    (s.orderStep i).freeCount = s.freeCount ∧ (s.orderStep i).passOwed = s.passOwed ∧ (s.orderStep i).clock = s.clock ∧
    (s.orderStep i).link = s.link ∧ (s.orderStep i).rx = s.rx ∧ (s.orderStep i).store = s.store ∧
    (s.orderStep i).plates = s.plates ∧ (s.orderStep i).sched = s.sched ∧ (s.orderStep i).line = s.line ∧
    (s.orderStep i).punch = s.punch ∧ (s.orderStep i).bend = s.bend ∧ (s.orderStep i).sorter = s.sorter ∧
    (s.orderStep i).inputs = s.inputs ∧ (s.orderStep i).reports = s.reports := by
  simp [State.orderStep]

@[simp] theorem State.exposingIndex_frame (i : Imager) (v : Bool) (s : State) :
    (s.exposingIndex i v).pending = s.pending ∧ (s.exposingIndex i v).resetAsserted = s.resetAsserted ∧
    (s.exposingIndex i v).freeCount = s.freeCount ∧ (s.exposingIndex i v).clock = s.clock ∧
    (s.exposingIndex i v).link = s.link ∧ (s.exposingIndex i v).rx = s.rx ∧ (s.exposingIndex i v).sched = s.sched ∧
    (s.exposingIndex i v).punch = s.punch ∧ (s.exposingIndex i v).bend = s.bend ∧
    (s.exposingIndex i v).sorter = s.sorter ∧ (s.exposingIndex i v).inputs = s.inputs ∧
    (s.exposingIndex i v).store.memory = s.store.memory ∧ (s.exposingIndex i v).reports.mask = s.reports.mask ∧
    (s.exposingIndex i v).reports.seq = s.reports.seq ∧ (s.exposingIndex i v).line.items = s.line.items ∧
    (s.exposingIndex i v).line.state = s.line.state := by
  simp only [State.exposingIndex]
  repeat' split
  all_goals simp

@[simp] theorem State.spinupCompletes_frame (i : Imager) (s : State) :
    (s.spinupCompletes i).pending = s.pending ∧ (s.spinupCompletes i).resetAsserted = s.resetAsserted ∧
    (s.spinupCompletes i).freeCount = s.freeCount ∧ (s.spinupCompletes i).clock = s.clock ∧
    (s.spinupCompletes i).link = s.link ∧ (s.spinupCompletes i).rx = s.rx ∧ (s.spinupCompletes i).sched = s.sched ∧
    (s.spinupCompletes i).punch = s.punch ∧ (s.spinupCompletes i).bend = s.bend ∧
    (s.spinupCompletes i).sorter = s.sorter ∧ (s.spinupCompletes i).inputs = s.inputs ∧
    (s.spinupCompletes i).store.memory = s.store.memory ∧ (s.spinupCompletes i).reports.mask = s.reports.mask ∧
    (s.spinupCompletes i).reports.seq = s.reports.seq ∧ (s.spinupCompletes i).line.items = s.line.items ∧
    (s.spinupCompletes i).line.state = s.line.state := by
  simp [State.spinupCompletes]

@[simp] theorem State.spinupIndex_frame (i : Imager) (v : Bool) (s : State) :
    (s.spinupIndex i v).pending = s.pending ∧ (s.spinupIndex i v).resetAsserted = s.resetAsserted ∧
    (s.spinupIndex i v).freeCount = s.freeCount ∧ (s.spinupIndex i v).clock = s.clock ∧
    (s.spinupIndex i v).link = s.link ∧ (s.spinupIndex i v).rx = s.rx ∧ (s.spinupIndex i v).sched = s.sched ∧
    (s.spinupIndex i v).punch = s.punch ∧ (s.spinupIndex i v).bend = s.bend ∧ (s.spinupIndex i v).sorter = s.sorter ∧
    (s.spinupIndex i v).inputs = s.inputs ∧ (s.spinupIndex i v).store.memory = s.store.memory ∧
    (s.spinupIndex i v).reports.mask = s.reports.mask ∧ (s.spinupIndex i v).reports.seq = s.reports.seq ∧
    (s.spinupIndex i v).line.items = s.line.items ∧ (s.spinupIndex i v).line.state = s.line.state := by
  simp only [State.spinupIndex]
  repeat' split
  all_goals simp

@[simp] theorem State.indexPulse_frame (i : Imager) (s : State) :
    (s.indexPulse i).pending = s.pending ∧ (s.indexPulse i).resetAsserted = s.resetAsserted ∧
    (s.indexPulse i).freeCount = s.freeCount ∧ (s.indexPulse i).clock = s.clock ∧ (s.indexPulse i).link = s.link ∧
    (s.indexPulse i).rx = s.rx ∧ (s.indexPulse i).sched = s.sched ∧ (s.indexPulse i).punch = s.punch ∧
    (s.indexPulse i).bend = s.bend ∧ (s.indexPulse i).sorter = s.sorter ∧ (s.indexPulse i).inputs = s.inputs ∧
    (s.indexPulse i).store.memory = s.store.memory ∧ (s.indexPulse i).reports.mask = s.reports.mask ∧
    (s.indexPulse i).reports.seq = s.reports.seq ∧ (s.indexPulse i).line.items = s.line.items ∧
    (s.indexPulse i).line.state = s.line.state := by
  simp only [State.indexPulse]
  split <;> simp

@[simp] theorem State.emissionEnds_frame (i : Imager) (s : State) :
    (s.emissionEnds i).pending = s.pending ∧ (s.emissionEnds i).resetAsserted = s.resetAsserted ∧
    (s.emissionEnds i).freeCount = s.freeCount ∧ (s.emissionEnds i).clock = s.clock ∧
    (s.emissionEnds i).link = s.link ∧ (s.emissionEnds i).rx = s.rx ∧ (s.emissionEnds i).sched = s.sched ∧
    (s.emissionEnds i).punch = s.punch ∧ (s.emissionEnds i).bend = s.bend ∧ (s.emissionEnds i).sorter = s.sorter ∧
    (s.emissionEnds i).inputs = s.inputs ∧ (s.emissionEnds i).store.memory = s.store.memory ∧
    (s.emissionEnds i).reports.mask = s.reports.mask ∧ (s.emissionEnds i).reports.seq = s.reports.seq ∧
    (s.emissionEnds i).line.items = s.line.items ∧ (s.emissionEnds i).line.state = s.line.state := by
  simp only [State.emissionEnds]
  repeat' split
  all_goals simp

@[simp] theorem State.pulseEnds_frame (i : Imager) (s : State) :
    (s.pulseEnds i).pending = s.pending ∧ (s.pulseEnds i).resetAsserted = s.resetAsserted ∧
    (s.pulseEnds i).freeCount = s.freeCount ∧ (s.pulseEnds i).passOwed = s.passOwed ∧ (s.pulseEnds i).clock = s.clock ∧
    (s.pulseEnds i).link = s.link ∧ (s.pulseEnds i).rx = s.rx ∧ (s.pulseEnds i).store = s.store ∧
    (s.pulseEnds i).plates = s.plates ∧ (s.pulseEnds i).sched = s.sched ∧ (s.pulseEnds i).line = s.line ∧
    (s.pulseEnds i).punch = s.punch ∧ (s.pulseEnds i).bend = s.bend ∧ (s.pulseEnds i).sorter = s.sorter ∧
    (s.pulseEnds i).inputs = s.inputs ∧ (s.pulseEnds i).reports = s.reports := by
  simp only [State.pulseEnds]
  split <;> simp

@[simp] theorem State.stalls_frame (i : Imager) (s : State) :
    (s.stalls i).pending = s.pending ∧ (s.stalls i).resetAsserted = s.resetAsserted ∧
    (s.stalls i).freeCount = s.freeCount ∧ (s.stalls i).clock = s.clock ∧ (s.stalls i).link = s.link ∧
    (s.stalls i).rx = s.rx ∧ (s.stalls i).sched = s.sched ∧ (s.stalls i).punch = s.punch ∧
    (s.stalls i).bend = s.bend ∧ (s.stalls i).sorter = s.sorter ∧ (s.stalls i).inputs = s.inputs ∧
    (s.stalls i).store.memory = s.store.memory ∧ (s.stalls i).reports.mask = s.reports.mask ∧
    (s.stalls i).reports.seq = s.reports.seq ∧ (s.stalls i).line.items = s.line.items ∧
    (s.stalls i).line.state = s.line.state := by
  simp only [State.stalls]
  split <;> simp

@[simp] theorem State.unloaded_frame (i : Imager) (s : State) :
    (s.unloaded i).pending = s.pending ∧ (s.unloaded i).resetAsserted = s.resetAsserted ∧
    (s.unloaded i).freeCount = s.freeCount ∧ (s.unloaded i).clock = s.clock ∧ (s.unloaded i).link = s.link ∧
    (s.unloaded i).rx = s.rx ∧ (s.unloaded i).store = s.store ∧ (s.unloaded i).plates = s.plates ∧
    (s.unloaded i).sched = s.sched ∧ (s.unloaded i).line = s.line ∧ (s.unloaded i).punch = s.punch ∧
    (s.unloaded i).bend = s.bend ∧ (s.unloaded i).sorter = s.sorter ∧ (s.unloaded i).inputs = s.inputs ∧
    (s.unloaded i).reports = s.reports := by
  simp only [State.unloaded]
  split <;> simp

@[simp] theorem State.restartImager_frame (i : Imager) (l : List Build) (s : State) :
    (s.restartImager i l).pending = s.pending ∧ (s.restartImager i l).resetAsserted = s.resetAsserted ∧
    (s.restartImager i l).freeCount = s.freeCount ∧ (s.restartImager i l).passOwed = s.passOwed ∧
    (s.restartImager i l).clock = s.clock ∧ (s.restartImager i l).link = s.link ∧ (s.restartImager i l).rx = s.rx ∧
    (s.restartImager i l).plates = s.plates ∧ (s.restartImager i l).sched = s.sched ∧
    (s.restartImager i l).line = s.line ∧ (s.restartImager i l).punch = s.punch ∧ (s.restartImager i l).bend = s.bend ∧
    (s.restartImager i l).sorter = s.sorter ∧ (s.restartImager i l).inputs = s.inputs ∧
    (s.restartImager i l).store.memory = s.store.memory ∧ (s.restartImager i l).reports.mask = s.reports.mask ∧
    (s.restartImager i l).reports.seq = s.reports.seq ∧ (s.restartImager i l).reports.events = s.reports.events := by
  simp only [State.restartImager]
  split <;> simp

@[simp] theorem State.dispatchBuild_frame (i : Imager) (b : Build) (e : MapEntry) (s : State) :
    (s.dispatchBuild i b e).pending = s.pending ∧ (s.dispatchBuild i b e).resetAsserted = s.resetAsserted ∧
    (s.dispatchBuild i b e).freeCount = s.freeCount ∧ (s.dispatchBuild i b e).passOwed = s.passOwed ∧
    (s.dispatchBuild i b e).clock = s.clock ∧ (s.dispatchBuild i b e).link = s.link ∧
    (s.dispatchBuild i b e).rx = s.rx ∧ (s.dispatchBuild i b e).line = s.line ∧
    (s.dispatchBuild i b e).punch = s.punch ∧ (s.dispatchBuild i b e).bend = s.bend ∧
    (s.dispatchBuild i b e).sorter = s.sorter ∧ (s.dispatchBuild i b e).inputs = s.inputs ∧
    (s.dispatchBuild i b e).store.memory = s.store.memory ∧ (s.dispatchBuild i b e).reports.mask = s.reports.mask ∧
    (s.dispatchBuild i b e).reports.seq = s.reports.seq ∧ (s.dispatchBuild i b e).plates.sizes = s.plates.sizes ∧
    (s.dispatchBuild i b e).plates.map = s.plates.map ∧
    (s.dispatchBuild i b e).plates.pendingList = s.plates.pendingList ∧
    (s.dispatchBuild i b e).sched.lineHolds = s.sched.lineHolds ∧
    (s.dispatchBuild i b e).sched.assignment = s.sched.assignment ∧
    (s.dispatchBuild i b e).reports.events = s.reports.events := by
  simp only [State.dispatchBuild]
  split <;> simp

@[simp] theorem State.passFor_frame (i : Imager) (s : State) :
    (s.passFor i).pending = s.pending ∧ (s.passFor i).resetAsserted = s.resetAsserted ∧
    (s.passFor i).freeCount = s.freeCount ∧ (s.passFor i).passOwed = s.passOwed ∧ (s.passFor i).clock = s.clock ∧
    (s.passFor i).link = s.link ∧ (s.passFor i).rx = s.rx ∧ (s.passFor i).line = s.line ∧
    (s.passFor i).punch = s.punch ∧ (s.passFor i).bend = s.bend ∧ (s.passFor i).sorter = s.sorter ∧
    (s.passFor i).inputs = s.inputs ∧ (s.passFor i).store.memory = s.store.memory ∧
    (s.passFor i).reports.mask = s.reports.mask ∧ (s.passFor i).reports.seq = s.reports.seq ∧
    (s.passFor i).plates.sizes = s.plates.sizes ∧ (s.passFor i).plates.map = s.plates.map ∧
    (s.passFor i).plates.pendingList = s.plates.pendingList ∧ (s.passFor i).sched.lineHolds = s.sched.lineHolds ∧
    (s.passFor i).sched.assignment = s.sched.assignment ∧ (s.passFor i).reports.events = s.reports.events := by
  simp only [State.passFor]
  repeat' split
  all_goals simp

@[simp] theorem State.dispatchPass_frame (s : State) :
    (s.dispatchPass).pending = s.pending ∧ (s.dispatchPass).resetAsserted = s.resetAsserted ∧
    (s.dispatchPass).freeCount = s.freeCount ∧ (s.dispatchPass).clock = s.clock ∧ (s.dispatchPass).link = s.link ∧
    (s.dispatchPass).rx = s.rx ∧ (s.dispatchPass).line = s.line ∧ (s.dispatchPass).punch = s.punch ∧
    (s.dispatchPass).bend = s.bend ∧ (s.dispatchPass).sorter = s.sorter ∧ (s.dispatchPass).inputs = s.inputs ∧
    (s.dispatchPass).store.memory = s.store.memory ∧ (s.dispatchPass).reports.mask = s.reports.mask ∧
    (s.dispatchPass).reports.seq = s.reports.seq ∧ (s.dispatchPass).plates.sizes = s.plates.sizes ∧
    (s.dispatchPass).plates.map = s.plates.map ∧ (s.dispatchPass).plates.pendingList = s.plates.pendingList ∧
    (s.dispatchPass).sched.lineHolds = s.sched.lineHolds ∧ (s.dispatchPass).sched.assignment = s.sched.assignment ∧
    (s.dispatchPass).reports.events = s.reports.events := by
  simp [State.dispatchPass]

/-- No pass is owed after the pass of an event (R66). -/
@[simp] theorem State.makePass_owed (s : State) : s.makePass.passOwed = false := by
  unfold State.makePass
  split
  · rfl
  · simpa using ‹¬ s.passOwed = true›

@[simp] theorem State.dispatchPass_owed (s : State) : s.dispatchPass.passOwed = false := rfl

/-- An event that calls for no pass gets none (R66). -/
theorem State.makePass_none (s : State) (h : s.passOwed = false) : s.makePass = s := by simp [State.makePass, h]

/-- An event of R66 is followed by its pass. -/
theorem State.makePass_owing (s : State) (h : s.passOwed = true) : s.makePass = s.dispatchPass := by
  simp [State.makePass, h]

@[simp] theorem State.makePass_frame (s : State) :
    (s.makePass).pending = s.pending ∧ (s.makePass).resetAsserted = s.resetAsserted ∧
    (s.makePass).freeCount = s.freeCount ∧ (s.makePass).clock = s.clock ∧ (s.makePass).link = s.link ∧
    (s.makePass).rx = s.rx ∧ (s.makePass).line = s.line ∧ (s.makePass).punch = s.punch ∧ (s.makePass).bend = s.bend ∧
    (s.makePass).sorter = s.sorter ∧ (s.makePass).inputs = s.inputs ∧ (s.makePass).store.memory = s.store.memory ∧
    (s.makePass).reports.mask = s.reports.mask ∧ (s.makePass).reports.seq = s.reports.seq ∧
    (s.makePass).plates.sizes = s.plates.sizes ∧ (s.makePass).plates.map = s.plates.map ∧
    (s.makePass).plates.pendingList = s.plates.pendingList ∧ (s.makePass).sched.lineHolds = s.sched.lineHolds ∧
    (s.makePass).sched.assignment = s.sched.assignment ∧ (s.makePass).reports.events = s.reports.events := by
  unfold State.makePass
  split <;> simp

end Sys2Proof.Machine
end

