-- ==== Sys2Proof/Laws/Line.lean ====
section
/-! SUPPORT. Frames: what the operations of the Line Tracker, the stations and the sensors leave unchanged. -/

namespace Sys2Proof.Machine

@[simp] theorem Line.halted_frame (l : Line) (h : HaltRecord) (now : Nat) :
    (l.halted h now).counter = l.counter ∧ (l.halted h now).table = l.table ∧ (l.halted h now).merge = l.merge ∧
    (l.halted h now).state = .halted ∧ (l.halted h now).halt = some h ∧ (l.halted h now).out = LineOut.released := by
  and_intros <;> rfl

@[simp] theorem Line.modifyItem_frame (l : Line) (n : Nat) (f : Item → Item) :
    (l.modifyItem n f).state = l.state ∧ (l.modifyItem n f).counter = l.counter ∧ (l.modifyItem n f).halt = l.halt ∧
    (l.modifyItem n f).table = l.table ∧ (l.modifyItem n f).merge = l.merge ∧ (l.modifyItem n f).out = l.out := by
  and_intros <;> rfl

@[simp] theorem Line.startToGate_frame (l : Line) (now : Nat) (st : Station) :
    (l.startToGate now st).state = l.state ∧ (l.startToGate now st).counter = l.counter ∧
    (l.startToGate now st).halt = l.halt ∧ (l.startToGate now st).table = l.table ∧
    (l.startToGate now st).merge = l.merge ∧ (l.startToGate now st).out = l.out := by
  unfold Line.startToGate
  repeat' split
  all_goals simp

@[simp] theorem State.modifyItem_frame (n : Nat) (f : Item → Item) (s : State) :
    (s.modifyItem n f).pending = s.pending ∧ (s.modifyItem n f).resetAsserted = s.resetAsserted ∧
    (s.modifyItem n f).freeCount = s.freeCount ∧ (s.modifyItem n f).passOwed = s.passOwed ∧
    (s.modifyItem n f).clock = s.clock ∧ (s.modifyItem n f).link = s.link ∧ (s.modifyItem n f).rx = s.rx ∧
    (s.modifyItem n f).store = s.store ∧ (s.modifyItem n f).plates = s.plates ∧ (s.modifyItem n f).sched = s.sched ∧
    (s.modifyItem n f).chan = s.chan ∧ (s.modifyItem n f).punch = s.punch ∧ (s.modifyItem n f).bend = s.bend ∧
    (s.modifyItem n f).sorter = s.sorter ∧ (s.modifyItem n f).inputs = s.inputs ∧
    (s.modifyItem n f).reports = s.reports ∧ (s.modifyItem n f).line.state = s.line.state ∧
    (s.modifyItem n f).line.counter = s.line.counter ∧ (s.modifyItem n f).line.halt = s.line.halt ∧
    (s.modifyItem n f).line.table = s.line.table ∧ (s.modifyItem n f).line.merge = s.line.merge ∧
    (s.modifyItem n f).line.out = s.line.out := by
  and_intros <;> rfl

@[simp] theorem State.deleteItem_frame (n : Nat) (s : State) :
    (s.deleteItem n).pending = s.pending ∧ (s.deleteItem n).resetAsserted = s.resetAsserted ∧
    (s.deleteItem n).freeCount = s.freeCount ∧ (s.deleteItem n).passOwed = s.passOwed ∧
    (s.deleteItem n).clock = s.clock ∧ (s.deleteItem n).link = s.link ∧ (s.deleteItem n).rx = s.rx ∧
    (s.deleteItem n).store = s.store ∧ (s.deleteItem n).plates = s.plates ∧ (s.deleteItem n).sched = s.sched ∧
    (s.deleteItem n).chan = s.chan ∧ (s.deleteItem n).punch = s.punch ∧ (s.deleteItem n).bend = s.bend ∧
    (s.deleteItem n).sorter = s.sorter ∧ (s.deleteItem n).inputs = s.inputs ∧ (s.deleteItem n).reports = s.reports ∧
    (s.deleteItem n).line.state = s.line.state ∧ (s.deleteItem n).line.counter = s.line.counter ∧
    (s.deleteItem n).line.halt = s.line.halt ∧ (s.deleteItem n).line.table = s.line.table ∧
    (s.deleteItem n).line.merge = s.line.merge ∧ (s.deleteItem n).line.out = s.line.out := by
  and_intros <;> rfl

@[simp] theorem State.startToGates_frame (s : State) :
    (s.startToGates).pending = s.pending ∧ (s.startToGates).resetAsserted = s.resetAsserted ∧
    (s.startToGates).freeCount = s.freeCount ∧ (s.startToGates).passOwed = s.passOwed ∧
    (s.startToGates).clock = s.clock ∧ (s.startToGates).link = s.link ∧ (s.startToGates).rx = s.rx ∧
    (s.startToGates).store = s.store ∧ (s.startToGates).plates = s.plates ∧ (s.startToGates).sched = s.sched ∧
    (s.startToGates).chan = s.chan ∧ (s.startToGates).punch = s.punch ∧ (s.startToGates).bend = s.bend ∧
    (s.startToGates).sorter = s.sorter ∧ (s.startToGates).inputs = s.inputs ∧ (s.startToGates).reports = s.reports ∧
    (s.startToGates).line.state = s.line.state ∧ (s.startToGates).line.counter = s.line.counter ∧
    (s.startToGates).line.halt = s.line.halt ∧ (s.startToGates).line.table = s.line.table ∧
    (s.startToGates).line.merge = s.line.merge ∧ (s.startToGates).line.out = s.line.out := by
  simp [State.startToGates]

@[simp] theorem State.retireItem_frame (n : Nat) (c : Cause) (s : State) :
    (s.retireItem n c).pending = s.pending ∧ (s.retireItem n c).resetAsserted = s.resetAsserted ∧
    (s.retireItem n c).freeCount = s.freeCount ∧ (s.retireItem n c).passOwed = s.passOwed ∧
    (s.retireItem n c).clock = s.clock ∧ (s.retireItem n c).link = s.link ∧ (s.retireItem n c).rx = s.rx ∧
    (s.retireItem n c).store = s.store ∧ (s.retireItem n c).plates = s.plates ∧ (s.retireItem n c).sched = s.sched ∧
    (s.retireItem n c).chan = s.chan ∧ (s.retireItem n c).punch = s.punch ∧ (s.retireItem n c).bend = s.bend ∧
    (s.retireItem n c).sorter = s.sorter ∧ (s.retireItem n c).inputs = s.inputs ∧
    (s.retireItem n c).reports = s.reports ∧ (s.retireItem n c).line.state = s.line.state ∧
    (s.retireItem n c).line.counter = s.line.counter ∧ (s.retireItem n c).line.halt = s.line.halt ∧
    (s.retireItem n c).line.table = s.line.table ∧ (s.retireItem n c).line.merge = s.line.merge ∧
    (s.retireItem n c).line.out = s.line.out := by
  and_intros <;> rfl

@[simp] theorem State.finishWork_frame (n : Nat) (s : State) :
    (s.finishWork n).pending = s.pending ∧ (s.finishWork n).resetAsserted = s.resetAsserted ∧
    (s.finishWork n).freeCount = s.freeCount ∧ (s.finishWork n).passOwed = s.passOwed ∧
    (s.finishWork n).clock = s.clock ∧ (s.finishWork n).link = s.link ∧ (s.finishWork n).rx = s.rx ∧
    (s.finishWork n).store = s.store ∧ (s.finishWork n).plates = s.plates ∧ (s.finishWork n).sched = s.sched ∧
    (s.finishWork n).chan = s.chan ∧ (s.finishWork n).punch = s.punch ∧ (s.finishWork n).bend = s.bend ∧
    (s.finishWork n).sorter = s.sorter ∧ (s.finishWork n).inputs = s.inputs ∧ (s.finishWork n).reports = s.reports ∧
    (s.finishWork n).line.state = s.line.state ∧ (s.finishWork n).line.counter = s.line.counter ∧
    (s.finishWork n).line.halt = s.line.halt ∧ (s.finishWork n).line.table = s.line.table ∧
    (s.finishWork n).line.merge = s.line.merge ∧ (s.finishWork n).line.out = s.line.out := by
  and_intros <;> rfl

@[simp] theorem State.retireForReplacement_frame (n : Nat) (c : Cause) (s : State) :
    (s.retireForReplacement n c).pending = s.pending ∧ (s.retireForReplacement n c).resetAsserted = s.resetAsserted ∧
    (s.retireForReplacement n c).freeCount = s.freeCount ∧ (s.retireForReplacement n c).clock = s.clock ∧
    (s.retireForReplacement n c).link = s.link ∧ (s.retireForReplacement n c).rx = s.rx ∧
    (s.retireForReplacement n c).sched = s.sched ∧ (s.retireForReplacement n c).chan = s.chan ∧
    (s.retireForReplacement n c).punch = s.punch ∧ (s.retireForReplacement n c).bend = s.bend ∧
    (s.retireForReplacement n c).sorter = s.sorter ∧ (s.retireForReplacement n c).inputs = s.inputs ∧
    (s.retireForReplacement n c).reports = s.reports ∧ (s.retireForReplacement n c).store.memory = s.store.memory ∧
    (s.retireForReplacement n c).plates.sizes = s.plates.sizes ∧
    (s.retireForReplacement n c).line.state = s.line.state := by
  simp only [State.retireForReplacement]
  repeat' split
  all_goals simp

@[simp] theorem State.haltLine_frame (c : HaltCause) (n m : Option Nat) (e : Option ExitName) (s : State) :
    (s.haltLine c n m e).pending = s.pending ∧ (s.haltLine c n m e).resetAsserted = s.resetAsserted ∧
    (s.haltLine c n m e).freeCount = s.freeCount ∧ (s.haltLine c n m e).passOwed = s.passOwed ∧
    (s.haltLine c n m e).clock = s.clock ∧ (s.haltLine c n m e).link = s.link ∧ (s.haltLine c n m e).rx = s.rx ∧
    (s.haltLine c n m e).store = s.store ∧ (s.haltLine c n m e).plates = s.plates ∧
    (s.haltLine c n m e).sched = s.sched ∧ (s.haltLine c n m e).chan = s.chan ∧ (s.haltLine c n m e).sorter = s.sorter ∧
    (s.haltLine c n m e).inputs = s.inputs ∧ (s.haltLine c n m e).reports.mask = s.reports.mask ∧
    (s.haltLine c n m e).reports.seq = s.reports.seq ∧ (s.haltLine c n m e).reports.events = s.reports.events ∧
    (s.haltLine c n m e).line.counter = s.line.counter ∧ (s.haltLine c n m e).line.table = s.line.table ∧
    (s.haltLine c n m e).line.merge = s.line.merge := by
  simp only [State.haltLine]
  repeat' split
  all_goals simp

@[simp] theorem State.retireBuild_frame (b : Build) (c : Cause) (s : State) :
    (s.retireBuild b c).pending = s.pending ∧ (s.retireBuild b c).resetAsserted = s.resetAsserted ∧
    (s.retireBuild b c).freeCount = s.freeCount ∧ (s.retireBuild b c).clock = s.clock ∧
    (s.retireBuild b c).link = s.link ∧ (s.retireBuild b c).rx = s.rx ∧ (s.retireBuild b c).sched = s.sched ∧
    (s.retireBuild b c).punch = s.punch ∧ (s.retireBuild b c).bend = s.bend ∧ (s.retireBuild b c).sorter = s.sorter ∧
    (s.retireBuild b c).inputs = s.inputs ∧ (s.retireBuild b c).store.memory = s.store.memory ∧
    (s.retireBuild b c).reports.mask = s.reports.mask ∧ (s.retireBuild b c).reports.seq = s.reports.seq ∧
    (s.retireBuild b c).line.items = s.line.items ∧ (s.retireBuild b c).line.state = s.line.state := by
  simp only [State.retireBuild]
  split <;> simp

@[simp] theorem State.workEntry_frame (k : PageKey) (v : Nat) (p : PlateId) (s : State) :
    (s.workEntry k v p).pending = s.pending ∧ (s.workEntry k v p).resetAsserted = s.resetAsserted ∧
    (s.workEntry k v p).freeCount = s.freeCount ∧ (s.workEntry k v p).clock = s.clock ∧
    (s.workEntry k v p).link = s.link ∧ (s.workEntry k v p).rx = s.rx ∧ (s.workEntry k v p).sched = s.sched ∧
    (s.workEntry k v p).punch = s.punch ∧ (s.workEntry k v p).bend = s.bend ∧ (s.workEntry k v p).sorter = s.sorter ∧
    (s.workEntry k v p).inputs = s.inputs ∧ (s.workEntry k v p).store.memory = s.store.memory ∧
    (s.workEntry k v p).reports.mask = s.reports.mask ∧ (s.workEntry k v p).reports.seq = s.reports.seq ∧
    (s.workEntry k v p).line.state = s.line.state := by
  simp only [State.workEntry]
  repeat' split
  all_goals simp

@[simp] theorem State.workEntries_frame (k : PageKey) (v : Nat) (l : List PlateId) (s : State) :
    (s.workEntries k v l).pending = s.pending ∧ (s.workEntries k v l).resetAsserted = s.resetAsserted ∧
    (s.workEntries k v l).freeCount = s.freeCount ∧ (s.workEntries k v l).clock = s.clock ∧
    (s.workEntries k v l).link = s.link ∧ (s.workEntries k v l).rx = s.rx ∧ (s.workEntries k v l).sched = s.sched ∧
    (s.workEntries k v l).punch = s.punch ∧ (s.workEntries k v l).bend = s.bend ∧
    (s.workEntries k v l).sorter = s.sorter ∧ (s.workEntries k v l).inputs = s.inputs ∧
    (s.workEntries k v l).store.memory = s.store.memory ∧ (s.workEntries k v l).reports.mask = s.reports.mask ∧
    (s.workEntries k v l).reports.seq = s.reports.seq ∧ (s.workEntries k v l).line.state = s.line.state := by
  induction l generalizing s with
  | nil => simp [State.workEntries]
  | cons a l ih => simp [State.workEntries, ih]

@[simp] theorem State.answerNotice_frame (n : Notice) (s : State) :
    (s.answerNotice n).pending = s.pending ∧ (s.answerNotice n).resetAsserted = s.resetAsserted ∧
    (s.answerNotice n).freeCount = s.freeCount ∧ (s.answerNotice n).passOwed = s.passOwed ∧
    (s.answerNotice n).clock = s.clock ∧ (s.answerNotice n).link = s.link ∧ (s.answerNotice n).rx = s.rx ∧
    (s.answerNotice n).plates = s.plates ∧ (s.answerNotice n).sched = s.sched ∧ (s.answerNotice n).chan = s.chan ∧
    (s.answerNotice n).line = s.line ∧ (s.answerNotice n).punch = s.punch ∧ (s.answerNotice n).bend = s.bend ∧
    (s.answerNotice n).sorter = s.sorter ∧ (s.answerNotice n).inputs = s.inputs ∧
    (s.answerNotice n).store.memory = s.store.memory ∧ (s.answerNotice n).reports.mask = s.reports.mask ∧
    (s.answerNotice n).reports.seq = s.reports.seq := by
  simp only [State.answerNotice]
  split <;> simp

@[simp] theorem State.workNotice_frame (s : State) :
    (s.workNotice).pending = s.pending ∧ (s.workNotice).resetAsserted = s.resetAsserted ∧
    (s.workNotice).freeCount = s.freeCount ∧ (s.workNotice).clock = s.clock ∧ (s.workNotice).link = s.link ∧
    (s.workNotice).rx = s.rx ∧ (s.workNotice).sched = s.sched ∧ (s.workNotice).punch = s.punch ∧
    (s.workNotice).bend = s.bend ∧ (s.workNotice).sorter = s.sorter ∧ (s.workNotice).inputs = s.inputs ∧
    (s.workNotice).store.memory = s.store.memory ∧ (s.workNotice).reports.mask = s.reports.mask ∧
    (s.workNotice).reports.seq = s.reports.seq ∧ (s.workNotice).line.state = s.line.state := by
  simp only [State.workNotice]
  split <;> simp

@[simp] theorem State.orderDie_frame (s : State) :
    (s.orderDie).pending = s.pending ∧ (s.orderDie).resetAsserted = s.resetAsserted ∧
    (s.orderDie).freeCount = s.freeCount ∧ (s.orderDie).passOwed = s.passOwed ∧ (s.orderDie).clock = s.clock ∧
    (s.orderDie).link = s.link ∧ (s.orderDie).rx = s.rx ∧ (s.orderDie).store = s.store ∧
    (s.orderDie).plates = s.plates ∧ (s.orderDie).sched = s.sched ∧ (s.orderDie).chan = s.chan ∧
    (s.orderDie).line = s.line ∧ (s.orderDie).bend = s.bend ∧ (s.orderDie).sorter = s.sorter ∧
    (s.orderDie).inputs = s.inputs ∧ (s.orderDie).reports = s.reports := by
  and_intros <;> rfl

@[simp] theorem State.punchFinishes_frame (n : Nat) (s : State) :
    (s.punchFinishes n).pending = s.pending ∧ (s.punchFinishes n).resetAsserted = s.resetAsserted ∧
    (s.punchFinishes n).freeCount = s.freeCount ∧ (s.punchFinishes n).passOwed = s.passOwed ∧
    (s.punchFinishes n).clock = s.clock ∧ (s.punchFinishes n).link = s.link ∧ (s.punchFinishes n).rx = s.rx ∧
    (s.punchFinishes n).store = s.store ∧ (s.punchFinishes n).plates = s.plates ∧ (s.punchFinishes n).sched = s.sched ∧
    (s.punchFinishes n).chan = s.chan ∧ (s.punchFinishes n).bend = s.bend ∧ (s.punchFinishes n).sorter = s.sorter ∧
    (s.punchFinishes n).inputs = s.inputs ∧ (s.punchFinishes n).reports = s.reports ∧
    (s.punchFinishes n).line.state = s.line.state := by
  simp [State.punchFinishes]

@[simp] theorem State.noticeTaken_frame (n : Nat) (s : State) :
    (s.noticeTaken n).pending = s.pending ∧ (s.noticeTaken n).resetAsserted = s.resetAsserted ∧
    (s.noticeTaken n).freeCount = s.freeCount ∧ (s.noticeTaken n).passOwed = s.passOwed ∧
    (s.noticeTaken n).clock = s.clock ∧ (s.noticeTaken n).link = s.link ∧ (s.noticeTaken n).rx = s.rx ∧
    (s.noticeTaken n).store = s.store ∧ (s.noticeTaken n).plates = s.plates ∧ (s.noticeTaken n).sched = s.sched ∧
    (s.noticeTaken n).chan = s.chan ∧ (s.noticeTaken n).punch = s.punch ∧ (s.noticeTaken n).bend = s.bend ∧
    (s.noticeTaken n).sorter = s.sorter ∧ (s.noticeTaken n).inputs = s.inputs ∧ (s.noticeTaken n).reports = s.reports ∧
    (s.noticeTaken n).line.state = s.line.state ∧ (s.noticeTaken n).line.counter = s.line.counter ∧
    (s.noticeTaken n).line.halt = s.line.halt ∧ (s.noticeTaken n).line.table = s.line.table ∧
    (s.noticeTaken n).line.merge = s.line.merge ∧ (s.noticeTaken n).line.out = s.line.out := by
  and_intros <;> rfl

@[simp] theorem State.punchTakes_frame (it : Item) (s : State) :
    (s.punchTakes it).pending = s.pending ∧ (s.punchTakes it).resetAsserted = s.resetAsserted ∧
    (s.punchTakes it).freeCount = s.freeCount ∧ (s.punchTakes it).clock = s.clock ∧ (s.punchTakes it).link = s.link ∧
    (s.punchTakes it).rx = s.rx ∧ (s.punchTakes it).sched = s.sched ∧ (s.punchTakes it).chan = s.chan ∧
    (s.punchTakes it).bend = s.bend ∧ (s.punchTakes it).sorter = s.sorter ∧ (s.punchTakes it).inputs = s.inputs ∧
    (s.punchTakes it).reports = s.reports ∧ (s.punchTakes it).store.memory = s.store.memory ∧
    (s.punchTakes it).line.state = s.line.state := by
  simp only [State.punchTakes]
  repeat' split
  all_goals simp

@[simp] theorem State.punchEntry_frame (s : State) :
    (s.punchEntry).pending = s.pending ∧ (s.punchEntry).resetAsserted = s.resetAsserted ∧
    (s.punchEntry).freeCount = s.freeCount ∧ (s.punchEntry).clock = s.clock ∧ (s.punchEntry).link = s.link ∧
    (s.punchEntry).rx = s.rx ∧ (s.punchEntry).sched = s.sched ∧ (s.punchEntry).chan = s.chan ∧
    (s.punchEntry).bend = s.bend ∧ (s.punchEntry).sorter = s.sorter ∧ (s.punchEntry).inputs = s.inputs ∧
    (s.punchEntry).reports = s.reports ∧ (s.punchEntry).store.memory = s.store.memory ∧
    (s.punchEntry).line.state = s.line.state := by
  simp only [State.punchEntry]
  repeat' split
  all_goals simp

@[simp] theorem State.punchContinues_frame (n : Nat) (s : State) :
    (s.punchContinues n).pending = s.pending ∧ (s.punchContinues n).resetAsserted = s.resetAsserted ∧
    (s.punchContinues n).freeCount = s.freeCount ∧ (s.punchContinues n).passOwed = s.passOwed ∧
    (s.punchContinues n).clock = s.clock ∧ (s.punchContinues n).link = s.link ∧ (s.punchContinues n).rx = s.rx ∧
    (s.punchContinues n).store = s.store ∧ (s.punchContinues n).plates = s.plates ∧
    (s.punchContinues n).sched = s.sched ∧ (s.punchContinues n).chan = s.chan ∧ (s.punchContinues n).bend = s.bend ∧
    (s.punchContinues n).sorter = s.sorter ∧ (s.punchContinues n).inputs = s.inputs ∧
    (s.punchContinues n).reports = s.reports ∧ (s.punchContinues n).line.state = s.line.state := by
  simp only [State.punchContinues]
  repeat' split
  all_goals simp

@[simp] theorem State.dieHome_frame (n t : Nat) (s : State) :
    (s.dieHome n t).pending = s.pending ∧ (s.dieHome n t).resetAsserted = s.resetAsserted ∧
    (s.dieHome n t).freeCount = s.freeCount ∧ (s.dieHome n t).passOwed = s.passOwed ∧ (s.dieHome n t).clock = s.clock ∧
    (s.dieHome n t).link = s.link ∧ (s.dieHome n t).rx = s.rx ∧ (s.dieHome n t).store = s.store ∧
    (s.dieHome n t).plates = s.plates ∧ (s.dieHome n t).sched = s.sched ∧ (s.dieHome n t).chan = s.chan ∧
    (s.dieHome n t).bend = s.bend ∧ (s.dieHome n t).sorter = s.sorter ∧ (s.dieHome n t).inputs = s.inputs ∧
    (s.dieHome n t).reports = s.reports ∧ (s.dieHome n t).line.state = s.line.state := by
  simp only [State.dieHome]
  split <;> simp

@[simp] theorem State.dieExpires_frame (s : State) :
    (s.dieExpires).pending = s.pending ∧ (s.dieExpires).resetAsserted = s.resetAsserted ∧
    (s.dieExpires).freeCount = s.freeCount ∧ (s.dieExpires).clock = s.clock ∧ (s.dieExpires).link = s.link ∧
    (s.dieExpires).rx = s.rx ∧ (s.dieExpires).sched = s.sched ∧ (s.dieExpires).chan = s.chan ∧
    (s.dieExpires).sorter = s.sorter ∧ (s.dieExpires).inputs = s.inputs ∧
    (s.dieExpires).store.memory = s.store.memory ∧ (s.dieExpires).reports.mask = s.reports.mask ∧
    (s.dieExpires).reports.seq = s.reports.seq ∧ (s.dieExpires).reports.events = s.reports.events := by
  simp only [State.dieExpires]
  repeat' split
  all_goals simp

@[simp] theorem State.punchReturns_frame (s : State) :
    (s.punchReturns).pending = s.pending ∧ (s.punchReturns).resetAsserted = s.resetAsserted ∧
    (s.punchReturns).freeCount = s.freeCount ∧ (s.punchReturns).passOwed = s.passOwed ∧
    (s.punchReturns).clock = s.clock ∧ (s.punchReturns).link = s.link ∧ (s.punchReturns).rx = s.rx ∧
    (s.punchReturns).store = s.store ∧ (s.punchReturns).plates = s.plates ∧ (s.punchReturns).sched = s.sched ∧
    (s.punchReturns).chan = s.chan ∧ (s.punchReturns).bend = s.bend ∧ (s.punchReturns).sorter = s.sorter ∧
    (s.punchReturns).inputs = s.inputs ∧ (s.punchReturns).reports = s.reports ∧
    (s.punchReturns).line.state = s.line.state := by
  simp only [State.punchReturns]
  repeat' split
  all_goals simp

@[simp] theorem State.punchRemoved_frame (s : State) :
    (s.punchRemoved).pending = s.pending ∧ (s.punchRemoved).resetAsserted = s.resetAsserted ∧
    (s.punchRemoved).freeCount = s.freeCount ∧ (s.punchRemoved).passOwed = s.passOwed ∧
    (s.punchRemoved).clock = s.clock ∧ (s.punchRemoved).link = s.link ∧ (s.punchRemoved).rx = s.rx ∧
    (s.punchRemoved).store = s.store ∧ (s.punchRemoved).plates = s.plates ∧ (s.punchRemoved).sched = s.sched ∧
    (s.punchRemoved).chan = s.chan ∧ (s.punchRemoved).line = s.line ∧ (s.punchRemoved).bend = s.bend ∧
    (s.punchRemoved).sorter = s.sorter ∧ (s.punchRemoved).inputs = s.inputs ∧ (s.punchRemoved).reports = s.reports := by
  and_intros <;> rfl

@[simp] theorem State.orderBend_frame (k : BendKind) (s : State) :
    (s.orderBend k).pending = s.pending ∧ (s.orderBend k).resetAsserted = s.resetAsserted ∧
    (s.orderBend k).freeCount = s.freeCount ∧ (s.orderBend k).passOwed = s.passOwed ∧ (s.orderBend k).clock = s.clock ∧
    (s.orderBend k).link = s.link ∧ (s.orderBend k).rx = s.rx ∧ (s.orderBend k).store = s.store ∧
    (s.orderBend k).plates = s.plates ∧ (s.orderBend k).sched = s.sched ∧ (s.orderBend k).chan = s.chan ∧
    (s.orderBend k).line = s.line ∧ (s.orderBend k).punch = s.punch ∧ (s.orderBend k).sorter = s.sorter ∧
    (s.orderBend k).inputs = s.inputs ∧ (s.orderBend k).reports = s.reports := by
  and_intros <;> rfl

@[simp] theorem State.bendFinishes_frame (n : Nat) (s : State) :
    (s.bendFinishes n).pending = s.pending ∧ (s.bendFinishes n).resetAsserted = s.resetAsserted ∧
    (s.bendFinishes n).freeCount = s.freeCount ∧ (s.bendFinishes n).passOwed = s.passOwed ∧
    (s.bendFinishes n).clock = s.clock ∧ (s.bendFinishes n).link = s.link ∧ (s.bendFinishes n).rx = s.rx ∧
    (s.bendFinishes n).store = s.store ∧ (s.bendFinishes n).plates = s.plates ∧ (s.bendFinishes n).sched = s.sched ∧
    (s.bendFinishes n).chan = s.chan ∧ (s.bendFinishes n).punch = s.punch ∧ (s.bendFinishes n).sorter = s.sorter ∧
    (s.bendFinishes n).inputs = s.inputs ∧ (s.bendFinishes n).reports = s.reports ∧
    (s.bendFinishes n).line.state = s.line.state := by
  simp [State.bendFinishes]

@[simp] theorem State.bendTakes_frame (it : Item) (s : State) :
    (s.bendTakes it).pending = s.pending ∧ (s.bendTakes it).resetAsserted = s.resetAsserted ∧
    (s.bendTakes it).freeCount = s.freeCount ∧ (s.bendTakes it).passOwed = s.passOwed ∧
    (s.bendTakes it).clock = s.clock ∧ (s.bendTakes it).link = s.link ∧ (s.bendTakes it).rx = s.rx ∧
    (s.bendTakes it).store = s.store ∧ (s.bendTakes it).plates = s.plates ∧ (s.bendTakes it).sched = s.sched ∧
    (s.bendTakes it).chan = s.chan ∧ (s.bendTakes it).punch = s.punch ∧ (s.bendTakes it).sorter = s.sorter ∧
    (s.bendTakes it).inputs = s.inputs ∧ (s.bendTakes it).reports = s.reports ∧
    (s.bendTakes it).line.state = s.line.state := by
  simp only [State.bendTakes]
  repeat' split
  all_goals simp

@[simp] theorem State.bendEntry_frame (s : State) :
    (s.bendEntry).pending = s.pending ∧ (s.bendEntry).resetAsserted = s.resetAsserted ∧
    (s.bendEntry).freeCount = s.freeCount ∧ (s.bendEntry).passOwed = s.passOwed ∧ (s.bendEntry).clock = s.clock ∧
    (s.bendEntry).link = s.link ∧ (s.bendEntry).rx = s.rx ∧ (s.bendEntry).store = s.store ∧
    (s.bendEntry).plates = s.plates ∧ (s.bendEntry).sched = s.sched ∧ (s.bendEntry).chan = s.chan ∧
    (s.bendEntry).punch = s.punch ∧ (s.bendEntry).sorter = s.sorter ∧ (s.bendEntry).inputs = s.inputs ∧
    (s.bendEntry).reports = s.reports ∧ (s.bendEntry).line.state = s.line.state := by
  simp only [State.bendEntry]
  repeat' split
  all_goals simp

@[simp] theorem State.bendContinues_frame (n : Nat) (k : BendKind) (s : State) :
    (s.bendContinues n k).pending = s.pending ∧ (s.bendContinues n k).resetAsserted = s.resetAsserted ∧
    (s.bendContinues n k).freeCount = s.freeCount ∧ (s.bendContinues n k).passOwed = s.passOwed ∧
    (s.bendContinues n k).clock = s.clock ∧ (s.bendContinues n k).link = s.link ∧ (s.bendContinues n k).rx = s.rx ∧
    (s.bendContinues n k).store = s.store ∧ (s.bendContinues n k).plates = s.plates ∧
    (s.bendContinues n k).sched = s.sched ∧ (s.bendContinues n k).chan = s.chan ∧
    (s.bendContinues n k).punch = s.punch ∧ (s.bendContinues n k).sorter = s.sorter ∧
    (s.bendContinues n k).inputs = s.inputs ∧ (s.bendContinues n k).reports = s.reports ∧
    (s.bendContinues n k).line.state = s.line.state := by
  simp only [State.bendContinues]
  repeat' split
  all_goals simp

@[simp] theorem State.bendDone_frame (t : Nat) (s : State) :
    (s.bendDone t).pending = s.pending ∧ (s.bendDone t).resetAsserted = s.resetAsserted ∧
    (s.bendDone t).freeCount = s.freeCount ∧ (s.bendDone t).passOwed = s.passOwed ∧ (s.bendDone t).clock = s.clock ∧
    (s.bendDone t).link = s.link ∧ (s.bendDone t).rx = s.rx ∧ (s.bendDone t).store = s.store ∧
    (s.bendDone t).plates = s.plates ∧ (s.bendDone t).sched = s.sched ∧ (s.bendDone t).chan = s.chan ∧
    (s.bendDone t).punch = s.punch ∧ (s.bendDone t).sorter = s.sorter ∧ (s.bendDone t).inputs = s.inputs ∧
    (s.bendDone t).reports = s.reports ∧ (s.bendDone t).line.state = s.line.state := by
  simp only [State.bendDone]
  split <;> simp

@[simp] theorem State.bendExpires_frame (s : State) :
    (s.bendExpires).pending = s.pending ∧ (s.bendExpires).resetAsserted = s.resetAsserted ∧
    (s.bendExpires).freeCount = s.freeCount ∧ (s.bendExpires).clock = s.clock ∧ (s.bendExpires).link = s.link ∧
    (s.bendExpires).rx = s.rx ∧ (s.bendExpires).sched = s.sched ∧ (s.bendExpires).chan = s.chan ∧
    (s.bendExpires).sorter = s.sorter ∧ (s.bendExpires).inputs = s.inputs ∧
    (s.bendExpires).store.memory = s.store.memory ∧ (s.bendExpires).reports.mask = s.reports.mask ∧
    (s.bendExpires).reports.seq = s.reports.seq ∧ (s.bendExpires).reports.events = s.reports.events := by
  simp only [State.bendExpires]
  repeat' split
  all_goals simp

@[simp] theorem State.bendReturns_frame (s : State) :
    (s.bendReturns).pending = s.pending ∧ (s.bendReturns).resetAsserted = s.resetAsserted ∧
    (s.bendReturns).freeCount = s.freeCount ∧ (s.bendReturns).passOwed = s.passOwed ∧ (s.bendReturns).clock = s.clock ∧
    (s.bendReturns).link = s.link ∧ (s.bendReturns).rx = s.rx ∧ (s.bendReturns).store = s.store ∧
    (s.bendReturns).plates = s.plates ∧ (s.bendReturns).sched = s.sched ∧ (s.bendReturns).chan = s.chan ∧
    (s.bendReturns).punch = s.punch ∧ (s.bendReturns).sorter = s.sorter ∧ (s.bendReturns).inputs = s.inputs ∧
    (s.bendReturns).reports = s.reports ∧ (s.bendReturns).line.state = s.line.state := by
  simp only [State.bendReturns]
  repeat' split
  all_goals simp

@[simp] theorem State.bendRemoved_frame (s : State) :
    (s.bendRemoved).pending = s.pending ∧ (s.bendRemoved).resetAsserted = s.resetAsserted ∧
    (s.bendRemoved).freeCount = s.freeCount ∧ (s.bendRemoved).passOwed = s.passOwed ∧ (s.bendRemoved).clock = s.clock ∧
    (s.bendRemoved).link = s.link ∧ (s.bendRemoved).rx = s.rx ∧ (s.bendRemoved).store = s.store ∧
    (s.bendRemoved).plates = s.plates ∧ (s.bendRemoved).sched = s.sched ∧ (s.bendRemoved).chan = s.chan ∧
    (s.bendRemoved).line = s.line ∧ (s.bendRemoved).punch = s.punch ∧ (s.bendRemoved).sorter = s.sorter ∧
    (s.bendRemoved).inputs = s.inputs ∧ (s.bendRemoved).reports = s.reports := by
  and_intros <;> rfl

@[simp] theorem State.orderDeposit_frame (n : Nat) (d : Destination) (s : State) :
    (s.orderDeposit n d).pending = s.pending ∧ (s.orderDeposit n d).resetAsserted = s.resetAsserted ∧
    (s.orderDeposit n d).freeCount = s.freeCount ∧ (s.orderDeposit n d).passOwed = s.passOwed ∧
    (s.orderDeposit n d).clock = s.clock ∧ (s.orderDeposit n d).link = s.link ∧ (s.orderDeposit n d).rx = s.rx ∧
    (s.orderDeposit n d).store = s.store ∧ (s.orderDeposit n d).plates = s.plates ∧
    (s.orderDeposit n d).sched = s.sched ∧ (s.orderDeposit n d).chan = s.chan ∧ (s.orderDeposit n d).punch = s.punch ∧
    (s.orderDeposit n d).bend = s.bend ∧ (s.orderDeposit n d).inputs = s.inputs ∧
    (s.orderDeposit n d).reports = s.reports ∧ (s.orderDeposit n d).line.state = s.line.state := by
  and_intros <;> rfl

@[simp] theorem State.fixDestination_frame (n : Nat) (d : Destination) (v : Option Divert) (r : Bool) (s : State) :
    (s.fixDestination n d v r).pending = s.pending ∧ (s.fixDestination n d v r).resetAsserted = s.resetAsserted ∧
    (s.fixDestination n d v r).freeCount = s.freeCount ∧ (s.fixDestination n d v r).passOwed = s.passOwed ∧
    (s.fixDestination n d v r).clock = s.clock ∧ (s.fixDestination n d v r).link = s.link ∧
    (s.fixDestination n d v r).rx = s.rx ∧ (s.fixDestination n d v r).store = s.store ∧
    (s.fixDestination n d v r).plates = s.plates ∧ (s.fixDestination n d v r).sched = s.sched ∧
    (s.fixDestination n d v r).chan = s.chan ∧ (s.fixDestination n d v r).punch = s.punch ∧
    (s.fixDestination n d v r).bend = s.bend ∧ (s.fixDestination n d v r).inputs = s.inputs ∧
    (s.fixDestination n d v r).reports = s.reports ∧ (s.fixDestination n d v r).line.state = s.line.state ∧
    (s.fixDestination n d v r).line.halt = s.line.halt ∧ (s.fixDestination n d v r).line.counter = s.line.counter ∧
    (s.fixDestination n d v r).line.table = s.line.table ∧ (s.fixDestination n d v r).line.merge = s.line.merge ∧
    (s.fixDestination n d v r).line.out = s.line.out := by
  simp only [State.fixDestination]
  split <;> and_intros <;> rfl

@[simp] theorem State.haltBlocked_frame (s : State) :
    (s.haltBlocked).pending = s.pending ∧ (s.haltBlocked).resetAsserted = s.resetAsserted ∧
    (s.haltBlocked).freeCount = s.freeCount ∧ (s.haltBlocked).passOwed = s.passOwed ∧ (s.haltBlocked).clock = s.clock ∧
    (s.haltBlocked).link = s.link ∧ (s.haltBlocked).rx = s.rx ∧ (s.haltBlocked).store = s.store ∧
    (s.haltBlocked).plates = s.plates ∧ (s.haltBlocked).sched = s.sched ∧ (s.haltBlocked).chan = s.chan ∧
    (s.haltBlocked).inputs = s.inputs ∧ (s.haltBlocked).sorter = s.sorter ∧
    (s.haltBlocked).reports.mask = s.reports.mask ∧ (s.haltBlocked).reports.seq = s.reports.seq ∧
    (s.haltBlocked).reports.events = s.reports.events := by
  unfold State.haltBlocked
  split <;> simp

@[simp] theorem State.decideFor_frame (it : Item) (s : State) :
    (s.decideFor it).pending = s.pending ∧ (s.decideFor it).resetAsserted = s.resetAsserted ∧
    (s.decideFor it).freeCount = s.freeCount ∧ (s.decideFor it).clock = s.clock ∧ (s.decideFor it).link = s.link ∧
    (s.decideFor it).rx = s.rx ∧ (s.decideFor it).sched = s.sched ∧ (s.decideFor it).chan = s.chan ∧
    (s.decideFor it).inputs = s.inputs ∧ (s.decideFor it).store.memory = s.store.memory ∧
    (s.decideFor it).punch = s.punch ∧ (s.decideFor it).bend = s.bend ∧ (s.decideFor it).reports = s.reports ∧
    (s.decideFor it).line.state = s.line.state := by
  simp only [State.decideFor]
  repeat' split
  all_goals simp

@[simp] theorem State.sortTakes_frame (s : State) :
    (s.sortTakes).pending = s.pending ∧ (s.sortTakes).resetAsserted = s.resetAsserted ∧
    (s.sortTakes).freeCount = s.freeCount ∧ (s.sortTakes).clock = s.clock ∧ (s.sortTakes).link = s.link ∧
    (s.sortTakes).rx = s.rx ∧ (s.sortTakes).sched = s.sched ∧ (s.sortTakes).chan = s.chan ∧
    (s.sortTakes).inputs = s.inputs ∧ (s.sortTakes).store.memory = s.store.memory ∧ (s.sortTakes).punch = s.punch ∧
    (s.sortTakes).bend = s.bend ∧ (s.sortTakes).reports = s.reports ∧ (s.sortTakes).line.state = s.line.state := by
  simp only [State.sortTakes]
  repeat' split
  all_goals simp

@[simp] theorem State.sortEntry_frame (s : State) :
    (s.sortEntry).pending = s.pending ∧ (s.sortEntry).resetAsserted = s.resetAsserted ∧
    (s.sortEntry).freeCount = s.freeCount ∧ (s.sortEntry).clock = s.clock ∧ (s.sortEntry).link = s.link ∧
    (s.sortEntry).rx = s.rx ∧ (s.sortEntry).sched = s.sched ∧ (s.sortEntry).chan = s.chan ∧
    (s.sortEntry).inputs = s.inputs ∧ (s.sortEntry).store.memory = s.store.memory ∧
    (s.sortEntry).reports.mask = s.reports.mask ∧ (s.sortEntry).reports.seq = s.reports.seq ∧
    (s.sortEntry).reports.events = s.reports.events := by
  simp only [State.sortEntry]
  repeat' split
  all_goals simp

@[simp] theorem State.sorterReturns_frame (s : State) :
    (s.sorterReturns).pending = s.pending ∧ (s.sorterReturns).resetAsserted = s.resetAsserted ∧
    (s.sorterReturns).freeCount = s.freeCount ∧ (s.sorterReturns).clock = s.clock ∧ (s.sorterReturns).link = s.link ∧
    (s.sorterReturns).rx = s.rx ∧ (s.sorterReturns).sched = s.sched ∧ (s.sorterReturns).chan = s.chan ∧
    (s.sorterReturns).inputs = s.inputs ∧ (s.sorterReturns).store.memory = s.store.memory ∧
    (s.sorterReturns).punch = s.punch ∧ (s.sorterReturns).bend = s.bend ∧ (s.sorterReturns).reports = s.reports ∧
    (s.sorterReturns).line.state = s.line.state := by
  simp only [State.sorterReturns]
  split <;> simp

@[simp] theorem State.sorterRemoved_frame (s : State) :
    (s.sorterRemoved).pending = s.pending ∧ (s.sorterRemoved).resetAsserted = s.resetAsserted ∧
    (s.sorterRemoved).freeCount = s.freeCount ∧ (s.sorterRemoved).passOwed = s.passOwed ∧
    (s.sorterRemoved).clock = s.clock ∧ (s.sorterRemoved).link = s.link ∧ (s.sorterRemoved).rx = s.rx ∧
    (s.sorterRemoved).store = s.store ∧ (s.sorterRemoved).plates = s.plates ∧ (s.sorterRemoved).sched = s.sched ∧
    (s.sorterRemoved).chan = s.chan ∧ (s.sorterRemoved).line = s.line ∧ (s.sorterRemoved).punch = s.punch ∧
    (s.sorterRemoved).bend = s.bend ∧ (s.sorterRemoved).inputs = s.inputs ∧ (s.sorterRemoved).reports = s.reports := by
  and_intros <;> rfl

@[simp] theorem State.tellDelivery_frame (it : Item) (d : Destination) (s : State) :
    (s.tellDelivery it d).pending = s.pending ∧ (s.tellDelivery it d).resetAsserted = s.resetAsserted ∧
    (s.tellDelivery it d).freeCount = s.freeCount ∧ (s.tellDelivery it d).passOwed = s.passOwed ∧
    (s.tellDelivery it d).clock = s.clock ∧ (s.tellDelivery it d).link = s.link ∧ (s.tellDelivery it d).rx = s.rx ∧
    (s.tellDelivery it d).store = s.store ∧ (s.tellDelivery it d).sched = s.sched ∧
    (s.tellDelivery it d).chan = s.chan ∧ (s.tellDelivery it d).line = s.line ∧ (s.tellDelivery it d).punch = s.punch ∧
    (s.tellDelivery it d).bend = s.bend ∧ (s.tellDelivery it d).sorter = s.sorter ∧
    (s.tellDelivery it d).inputs = s.inputs ∧ (s.tellDelivery it d).reports = s.reports := by
  simp only [State.tellDelivery]
  split <;> simp

@[simp] theorem State.depositItem_frame (it : Item) (t : Nat) (s : State) :
    (s.depositItem it t).pending = s.pending ∧ (s.depositItem it t).resetAsserted = s.resetAsserted ∧
    (s.depositItem it t).freeCount = s.freeCount ∧ (s.depositItem it t).passOwed = s.passOwed ∧
    (s.depositItem it t).clock = s.clock ∧ (s.depositItem it t).link = s.link ∧ (s.depositItem it t).rx = s.rx ∧
    (s.depositItem it t).sched = s.sched ∧ (s.depositItem it t).chan = s.chan ∧ (s.depositItem it t).punch = s.punch ∧
    (s.depositItem it t).bend = s.bend ∧ (s.depositItem it t).inputs = s.inputs ∧
    (s.depositItem it t).store.memory = s.store.memory ∧ (s.depositItem it t).reports.mask = s.reports.mask ∧
    (s.depositItem it t).reports.seq = s.reports.seq ∧ (s.depositItem it t).line.state = s.line.state := by
  simp only [State.depositItem]
  split <;> simp

@[simp] theorem State.exitMatched_frame (it : Item) (s : State) :
    (s.exitMatched it).pending = s.pending ∧ (s.exitMatched it).resetAsserted = s.resetAsserted ∧
    (s.exitMatched it).freeCount = s.freeCount ∧ (s.exitMatched it).clock = s.clock ∧
    (s.exitMatched it).link = s.link ∧ (s.exitMatched it).rx = s.rx ∧ (s.exitMatched it).store = s.store ∧
    (s.exitMatched it).plates = s.plates ∧ (s.exitMatched it).sched = s.sched ∧ (s.exitMatched it).punch = s.punch ∧
    (s.exitMatched it).bend = s.bend ∧ (s.exitMatched it).sorter = s.sorter ∧ (s.exitMatched it).inputs = s.inputs ∧
    (s.exitMatched it).reports = s.reports ∧ (s.exitMatched it).line.state = s.line.state := by
  simp only [State.exitMatched]
  split <;> simp

@[simp] theorem State.gateMatched_frame (it : Item) (s : State) :
    (s.gateMatched it).pending = s.pending ∧ (s.gateMatched it).resetAsserted = s.resetAsserted ∧
    (s.gateMatched it).freeCount = s.freeCount ∧ (s.gateMatched it).passOwed = s.passOwed ∧
    (s.gateMatched it).clock = s.clock ∧ (s.gateMatched it).link = s.link ∧ (s.gateMatched it).rx = s.rx ∧
    (s.gateMatched it).store = s.store ∧ (s.gateMatched it).plates = s.plates ∧ (s.gateMatched it).sched = s.sched ∧
    (s.gateMatched it).chan = s.chan ∧ (s.gateMatched it).punch = s.punch ∧ (s.gateMatched it).bend = s.bend ∧
    (s.gateMatched it).sorter = s.sorter ∧ (s.gateMatched it).inputs = s.inputs ∧
    (s.gateMatched it).reports = s.reports ∧ (s.gateMatched it).line.state = s.line.state := by
  simp [State.gateMatched]

@[simp] theorem State.entryMatched_frame (it : Item) (st : Station) (t : Nat) (s : State) :
    (s.entryMatched it st t).pending = s.pending ∧ (s.entryMatched it st t).resetAsserted = s.resetAsserted ∧
    (s.entryMatched it st t).freeCount = s.freeCount ∧ (s.entryMatched it st t).passOwed = s.passOwed ∧
    (s.entryMatched it st t).clock = s.clock ∧ (s.entryMatched it st t).link = s.link ∧
    (s.entryMatched it st t).rx = s.rx ∧ (s.entryMatched it st t).store = s.store ∧
    (s.entryMatched it st t).plates = s.plates ∧ (s.entryMatched it st t).sched = s.sched ∧
    (s.entryMatched it st t).chan = s.chan ∧ (s.entryMatched it st t).punch = s.punch ∧
    (s.entryMatched it st t).bend = s.bend ∧ (s.entryMatched it st t).sorter = s.sorter ∧
    (s.entryMatched it st t).inputs = s.inputs ∧ (s.entryMatched it st t).reports = s.reports ∧
    (s.entryMatched it st t).line.state = s.line.state := by
  and_intros <;> rfl

@[simp] theorem State.matched_frame (it : Item) (k : WindowKind) (t : Nat) (s : State) :
    (s.matched it k t).pending = s.pending ∧ (s.matched it k t).resetAsserted = s.resetAsserted ∧
    (s.matched it k t).freeCount = s.freeCount ∧ (s.matched it k t).clock = s.clock ∧
    (s.matched it k t).link = s.link ∧ (s.matched it k t).rx = s.rx ∧ (s.matched it k t).sched = s.sched ∧
    (s.matched it k t).punch = s.punch ∧ (s.matched it k t).bend = s.bend ∧ (s.matched it k t).inputs = s.inputs ∧
    (s.matched it k t).store.memory = s.store.memory ∧ (s.matched it k t).reports.mask = s.reports.mask ∧
    (s.matched it k t).reports.seq = s.reports.seq ∧ (s.matched it k t).line.state = s.line.state := by
  simp only [State.matched]
  split <;> simp

@[simp] theorem State.phantom_frame (x : LineSensor) (n : Option Nat) (t : Nat) (s : State) :
    (s.phantom x n t).pending = s.pending ∧ (s.phantom x n t).resetAsserted = s.resetAsserted ∧
    (s.phantom x n t).freeCount = s.freeCount ∧ (s.phantom x n t).passOwed = s.passOwed ∧
    (s.phantom x n t).clock = s.clock ∧ (s.phantom x n t).link = s.link ∧ (s.phantom x n t).rx = s.rx ∧
    (s.phantom x n t).store = s.store ∧ (s.phantom x n t).plates = s.plates ∧ (s.phantom x n t).sched = s.sched ∧
    (s.phantom x n t).chan = s.chan ∧ (s.phantom x n t).sorter = s.sorter ∧ (s.phantom x n t).inputs = s.inputs ∧
    (s.phantom x n t).reports.mask = s.reports.mask ∧ (s.phantom x n t).reports.seq = s.reports.seq ∧
    (s.phantom x n t).reports.events = s.reports.events := by
  simp only [State.phantom]
  split <;> simp

@[simp] theorem State.lineArrival_frame (x : LineSensor) (t : Nat) (s : State) :
    (s.lineArrival x t).pending = s.pending ∧ (s.lineArrival x t).resetAsserted = s.resetAsserted ∧
    (s.lineArrival x t).freeCount = s.freeCount ∧ (s.lineArrival x t).clock = s.clock ∧
    (s.lineArrival x t).link = s.link ∧ (s.lineArrival x t).rx = s.rx ∧ (s.lineArrival x t).sched = s.sched ∧
    (s.lineArrival x t).inputs = s.inputs ∧ (s.lineArrival x t).store.memory = s.store.memory ∧
    (s.lineArrival x t).reports.mask = s.reports.mask ∧ (s.lineArrival x t).reports.seq = s.reports.seq := by
  simp only [State.lineArrival]
  repeat' split
  all_goals simp

@[simp] theorem State.gateOpens_frame (st : Station) (s : State) :
    (s.gateOpens st).pending = s.pending ∧ (s.gateOpens st).resetAsserted = s.resetAsserted ∧
    (s.gateOpens st).freeCount = s.freeCount ∧ (s.gateOpens st).passOwed = s.passOwed ∧
    (s.gateOpens st).clock = s.clock ∧ (s.gateOpens st).link = s.link ∧ (s.gateOpens st).rx = s.rx ∧
    (s.gateOpens st).store = s.store ∧ (s.gateOpens st).plates = s.plates ∧ (s.gateOpens st).sched = s.sched ∧
    (s.gateOpens st).chan = s.chan ∧ (s.gateOpens st).punch = s.punch ∧ (s.gateOpens st).bend = s.bend ∧
    (s.gateOpens st).sorter = s.sorter ∧ (s.gateOpens st).inputs = s.inputs ∧ (s.gateOpens st).reports = s.reports ∧
    (s.gateOpens st).line.state = s.line.state := by
  simp only [State.gateOpens]
  split <;> simp

@[simp] theorem State.itemReleases_frame (st : Station) (s : State) :
    (s.itemReleases st).pending = s.pending ∧ (s.itemReleases st).resetAsserted = s.resetAsserted ∧
    (s.itemReleases st).freeCount = s.freeCount ∧ (s.itemReleases st).passOwed = s.passOwed ∧
    (s.itemReleases st).clock = s.clock ∧ (s.itemReleases st).link = s.link ∧ (s.itemReleases st).rx = s.rx ∧
    (s.itemReleases st).store = s.store ∧ (s.itemReleases st).plates = s.plates ∧ (s.itemReleases st).sched = s.sched ∧
    (s.itemReleases st).chan = s.chan ∧ (s.itemReleases st).punch = s.punch ∧ (s.itemReleases st).bend = s.bend ∧
    (s.itemReleases st).sorter = s.sorter ∧ (s.itemReleases st).inputs = s.inputs ∧
    (s.itemReleases st).reports = s.reports ∧ (s.itemReleases st).line.state = s.line.state := by
  simp only [State.itemReleases]
  split <;> simp

@[simp] theorem State.grantTo_frame (r : ExitRequest) (b : Build) (s : State) :
    (s.grantTo r b).pending = s.pending ∧ (s.grantTo r b).resetAsserted = s.resetAsserted ∧
    (s.grantTo r b).freeCount = s.freeCount ∧ (s.grantTo r b).clock = s.clock ∧ (s.grantTo r b).link = s.link ∧
    (s.grantTo r b).rx = s.rx ∧ (s.grantTo r b).sched = s.sched ∧ (s.grantTo r b).punch = s.punch ∧
    (s.grantTo r b).bend = s.bend ∧ (s.grantTo r b).sorter = s.sorter ∧ (s.grantTo r b).inputs = s.inputs ∧
    (s.grantTo r b).reports = s.reports ∧ (s.grantTo r b).store.memory = s.store.memory ∧
    (s.grantTo r b).line.state = s.line.state := by
  simp [State.grantTo]

@[simp] theorem State.mergeGrants_frame (s : State) :
    (s.mergeGrants).pending = s.pending ∧ (s.mergeGrants).resetAsserted = s.resetAsserted ∧
    (s.mergeGrants).freeCount = s.freeCount ∧ (s.mergeGrants).clock = s.clock ∧ (s.mergeGrants).link = s.link ∧
    (s.mergeGrants).rx = s.rx ∧ (s.mergeGrants).sched = s.sched ∧ (s.mergeGrants).punch = s.punch ∧
    (s.mergeGrants).bend = s.bend ∧ (s.mergeGrants).sorter = s.sorter ∧ (s.mergeGrants).inputs = s.inputs ∧
    (s.mergeGrants).reports = s.reports ∧ (s.mergeGrants).store.memory = s.store.memory ∧
    (s.mergeGrants).line.state = s.line.state := by
  simp only [State.mergeGrants]
  repeat' split
  all_goals simp

@[simp] theorem State.spacingExpires_frame (s : State) :
    (s.spacingExpires).pending = s.pending ∧ (s.spacingExpires).resetAsserted = s.resetAsserted ∧
    (s.spacingExpires).freeCount = s.freeCount ∧ (s.spacingExpires).passOwed = s.passOwed ∧
    (s.spacingExpires).clock = s.clock ∧ (s.spacingExpires).link = s.link ∧ (s.spacingExpires).rx = s.rx ∧
    (s.spacingExpires).store = s.store ∧ (s.spacingExpires).plates = s.plates ∧ (s.spacingExpires).sched = s.sched ∧
    (s.spacingExpires).chan = s.chan ∧ (s.spacingExpires).punch = s.punch ∧ (s.spacingExpires).bend = s.bend ∧
    (s.spacingExpires).sorter = s.sorter ∧ (s.spacingExpires).inputs = s.inputs ∧
    (s.spacingExpires).reports = s.reports ∧ (s.spacingExpires).line.state = s.line.state ∧
    (s.spacingExpires).line.items = s.line.items := by
  simp only [State.spacingExpires]
  split <;> simp

@[simp] theorem State.windowExpires_frame (x : LineSensor) (s : State) :
    (s.windowExpires x).pending = s.pending ∧ (s.windowExpires x).resetAsserted = s.resetAsserted ∧
    (s.windowExpires x).freeCount = s.freeCount ∧ (s.windowExpires x).passOwed = s.passOwed ∧
    (s.windowExpires x).clock = s.clock ∧ (s.windowExpires x).link = s.link ∧ (s.windowExpires x).rx = s.rx ∧
    (s.windowExpires x).store = s.store ∧ (s.windowExpires x).plates = s.plates ∧ (s.windowExpires x).sched = s.sched ∧
    (s.windowExpires x).chan = s.chan ∧ (s.windowExpires x).sorter = s.sorter ∧ (s.windowExpires x).inputs = s.inputs ∧
    (s.windowExpires x).reports.mask = s.reports.mask ∧ (s.windowExpires x).reports.seq = s.reports.seq ∧
    (s.windowExpires x).reports.events = s.reports.events := by
  simp only [State.windowExpires]
  split <;> simp

@[simp] theorem State.takeNotices_frame (s : State) :
    (s.takeNotices).pending = s.pending ∧ (s.takeNotices).resetAsserted = s.resetAsserted ∧
    (s.takeNotices).freeCount = s.freeCount ∧ (s.takeNotices).clock = s.clock ∧ (s.takeNotices).link = s.link ∧
    (s.takeNotices).rx = s.rx ∧ (s.takeNotices).sched = s.sched ∧ (s.takeNotices).chan = s.chan ∧
    (s.takeNotices).inputs = s.inputs ∧ (s.takeNotices).store.memory = s.store.memory ∧
    (s.takeNotices).reports = s.reports ∧ (s.takeNotices).line.state = s.line.state := by
  simp [State.takeNotices]

@[simp] theorem State.moveWaiting_frame (s : State) :
    (s.moveWaiting).pending = s.pending ∧ (s.moveWaiting).resetAsserted = s.resetAsserted ∧
    (s.moveWaiting).freeCount = s.freeCount ∧ (s.moveWaiting).passOwed = s.passOwed ∧ (s.moveWaiting).clock = s.clock ∧
    (s.moveWaiting).link = s.link ∧ (s.moveWaiting).rx = s.rx ∧ (s.moveWaiting).store = s.store ∧
    (s.moveWaiting).plates = s.plates ∧ (s.moveWaiting).sched = s.sched ∧ (s.moveWaiting).chan = s.chan ∧
    (s.moveWaiting).punch = s.punch ∧ (s.moveWaiting).bend = s.bend ∧ (s.moveWaiting).sorter = s.sorter ∧
    (s.moveWaiting).inputs = s.inputs ∧ (s.moveWaiting).reports = s.reports ∧
    (s.moveWaiting).line.state = s.line.state := by
  simp [State.moveWaiting]

@[simp] theorem State.tellReturn_frame (b : Bool) (s : State) :
    (s.tellReturn b).pending = s.pending ∧ (s.tellReturn b).resetAsserted = s.resetAsserted ∧
    (s.tellReturn b).freeCount = s.freeCount ∧ (s.tellReturn b).clock = s.clock ∧ (s.tellReturn b).link = s.link ∧
    (s.tellReturn b).rx = s.rx ∧ (s.tellReturn b).sched = s.sched ∧ (s.tellReturn b).chan = s.chan ∧
    (s.tellReturn b).inputs = s.inputs ∧ (s.tellReturn b).store.memory = s.store.memory ∧
    (s.tellReturn b).reports = s.reports ∧ (s.tellReturn b).line.state = s.line.state := by
  simp only [State.tellReturn]
  split <;> simp

@[simp] theorem State.returnToRunning_frame (s : State) :
    (s.returnToRunning).pending = s.pending ∧ (s.returnToRunning).resetAsserted = s.resetAsserted ∧
    (s.returnToRunning).freeCount = s.freeCount ∧ (s.returnToRunning).clock = s.clock ∧
    (s.returnToRunning).link = s.link ∧ (s.returnToRunning).rx = s.rx ∧ (s.returnToRunning).sched = s.sched ∧
    (s.returnToRunning).inputs = s.inputs ∧ (s.returnToRunning).store.memory = s.store.memory ∧
    (s.returnToRunning).reports.mask = s.reports.mask ∧ (s.returnToRunning).reports.seq = s.reports.seq ∧
    (s.returnToRunning).reports.events = s.reports.events := by
  simp [State.returnToRunning]

@[simp] theorem State.tellRemoved_frame (it : Item) (s : State) :
    (s.tellRemoved it).pending = s.pending ∧ (s.tellRemoved it).resetAsserted = s.resetAsserted ∧
    (s.tellRemoved it).freeCount = s.freeCount ∧ (s.tellRemoved it).clock = s.clock ∧
    (s.tellRemoved it).link = s.link ∧ (s.tellRemoved it).rx = s.rx ∧ (s.tellRemoved it).store = s.store ∧
    (s.tellRemoved it).plates = s.plates ∧ (s.tellRemoved it).sched = s.sched ∧ (s.tellRemoved it).line = s.line ∧
    (s.tellRemoved it).inputs = s.inputs ∧ (s.tellRemoved it).reports = s.reports := by
  simp only [State.tellRemoved]
  repeat' split
  all_goals simp

@[simp] theorem State.removeItem_frame (it : Item) (s : State) :
    (s.removeItem it).pending = s.pending ∧ (s.removeItem it).resetAsserted = s.resetAsserted ∧
    (s.removeItem it).freeCount = s.freeCount ∧ (s.removeItem it).clock = s.clock ∧ (s.removeItem it).link = s.link ∧
    (s.removeItem it).rx = s.rx ∧ (s.removeItem it).sched = s.sched ∧ (s.removeItem it).inputs = s.inputs ∧
    (s.removeItem it).reports = s.reports ∧ (s.removeItem it).store.memory = s.store.memory := by
  simp only [State.removeItem]
  split <;> simp

@[simp] theorem State.restartLine_frame (s : State) :
    (s.restartLine).pending = s.pending ∧ (s.restartLine).resetAsserted = s.resetAsserted ∧
    (s.restartLine).freeCount = s.freeCount ∧ (s.restartLine).passOwed = s.passOwed ∧ (s.restartLine).clock = s.clock ∧
    (s.restartLine).link = s.link ∧ (s.restartLine).rx = s.rx ∧ (s.restartLine).store = s.store ∧
    (s.restartLine).plates = s.plates ∧ (s.restartLine).sched = s.sched ∧ (s.restartLine).chan = s.chan ∧
    (s.restartLine).inputs = s.inputs ∧ (s.restartLine).reports = s.reports := by
  and_intros <;> rfl

@[simp] theorem State.attachCart_frame (n : Nat) (s : State) :
    (s.attachCart n).pending = s.pending ∧ (s.attachCart n).resetAsserted = s.resetAsserted ∧
    (s.attachCart n).freeCount = s.freeCount ∧ (s.attachCart n).passOwed = s.passOwed ∧
    (s.attachCart n).clock = s.clock ∧ (s.attachCart n).link = s.link ∧ (s.attachCart n).rx = s.rx ∧
    (s.attachCart n).store = s.store ∧ (s.attachCart n).plates = s.plates ∧ (s.attachCart n).sched = s.sched ∧
    (s.attachCart n).chan = s.chan ∧ (s.attachCart n).line = s.line ∧ (s.attachCart n).punch = s.punch ∧
    (s.attachCart n).bend = s.bend ∧ (s.attachCart n).inputs = s.inputs ∧ (s.attachCart n).reports = s.reports := by
  and_intros <;> rfl

@[simp] theorem State.detachCart_frame (n : Nat) (s : State) :
    (s.detachCart n).pending = s.pending ∧ (s.detachCart n).resetAsserted = s.resetAsserted ∧
    (s.detachCart n).freeCount = s.freeCount ∧ (s.detachCart n).passOwed = s.passOwed ∧
    (s.detachCart n).clock = s.clock ∧ (s.detachCart n).link = s.link ∧ (s.detachCart n).rx = s.rx ∧
    (s.detachCart n).store = s.store ∧ (s.detachCart n).plates = s.plates ∧ (s.detachCart n).sched = s.sched ∧
    (s.detachCart n).chan = s.chan ∧ (s.detachCart n).line = s.line ∧ (s.detachCart n).punch = s.punch ∧
    (s.detachCart n).bend = s.bend ∧ (s.detachCart n).inputs = s.inputs ∧ (s.detachCart n).reports = s.reports := by
  and_intros <;> rfl

@[simp] theorem State.takeArrival_frame (n t : Nat) (s : State) :
    (s.takeArrival n t).pending = s.pending ∧ (s.takeArrival n t).resetAsserted = s.resetAsserted ∧
    (s.takeArrival n t).freeCount = s.freeCount ∧ (s.takeArrival n t).clock = s.clock ∧
    (s.takeArrival n t).link = s.link ∧ (s.takeArrival n t).rx = s.rx ∧ (s.takeArrival n t).sched = s.sched ∧
    (s.takeArrival n t).inputs = s.inputs ∧ (s.takeArrival n t).store.memory = s.store.memory ∧
    (s.takeArrival n t).reports.mask = s.reports.mask ∧ (s.takeArrival n t).reports.seq = s.reports.seq := by
  simp only [State.takeArrival]
  repeat' split
  all_goals simp

@[simp] theorem State.arrival_frame (n : Nat) (s : State) :
    (s.arrival n).pending = s.pending ∧ (s.arrival n).resetAsserted = s.resetAsserted ∧
    (s.arrival n).freeCount = s.freeCount ∧ (s.arrival n).clock = s.clock ∧ (s.arrival n).link = s.link ∧
    (s.arrival n).rx = s.rx ∧ (s.arrival n).sched = s.sched ∧ (s.arrival n).store.memory = s.store.memory ∧
    (s.arrival n).reports.mask = s.reports.mask ∧ (s.arrival n).reports.seq = s.reports.seq := by
  simp only [State.arrival]
  split <;> simp

@[simp] theorem State.departure_frame (n : Nat) (s : State) :
    (s.departure n).pending = s.pending ∧ (s.departure n).resetAsserted = s.resetAsserted ∧
    (s.departure n).freeCount = s.freeCount ∧ (s.departure n).passOwed = s.passOwed ∧ (s.departure n).clock = s.clock ∧
    (s.departure n).link = s.link ∧ (s.departure n).rx = s.rx ∧ (s.departure n).store = s.store ∧
    (s.departure n).plates = s.plates ∧ (s.departure n).sched = s.sched ∧ (s.departure n).chan = s.chan ∧
    (s.departure n).line = s.line ∧ (s.departure n).punch = s.punch ∧ (s.departure n).bend = s.bend ∧
    (s.departure n).reports = s.reports := by
  simp only [State.departure]
  repeat' split
  all_goals simp

@[simp] theorem State.settle_frame (n : Nat) (s : State) :
    (s.settle n).pending = s.pending ∧ (s.settle n).resetAsserted = s.resetAsserted ∧
    (s.settle n).freeCount = s.freeCount ∧ (s.settle n).clock = s.clock ∧ (s.settle n).link = s.link ∧
    (s.settle n).rx = s.rx ∧ (s.settle n).store.memory = s.store.memory ∧
    (s.settle n).reports.mask = s.reports.mask ∧ (s.settle n).reports.seq = s.reports.seq := by
  simp only [State.settle]
  split <;> simp

@[simp] theorem State.rawLevel_frame (n : Nat) (v : Bool) (s : State) :
    (s.rawLevel n v).pending = s.pending ∧ (s.rawLevel n v).resetAsserted = s.resetAsserted ∧
    (s.rawLevel n v).freeCount = s.freeCount ∧ (s.rawLevel n v).clock = s.clock ∧ (s.rawLevel n v).link = s.link ∧
    (s.rawLevel n v).rx = s.rx ∧ (s.rawLevel n v).store.memory = s.store.memory ∧
    (s.rawLevel n v).reports.mask = s.reports.mask ∧ (s.rawLevel n v).reports.seq = s.reports.seq := by
  simp only [State.rawLevel]
  split <;> simp

@[simp] theorem State.configureInput_frame (n : Nat) (v : Bool) (m : Nat) (s : State) :
    (s.configureInput n v m).pending = s.pending ∧ (s.configureInput n v m).resetAsserted = s.resetAsserted ∧
    (s.configureInput n v m).freeCount = s.freeCount ∧ (s.configureInput n v m).clock = s.clock ∧
    (s.configureInput n v m).link = s.link ∧ (s.configureInput n v m).rx = s.rx ∧
    (s.configureInput n v m).store.memory = s.store.memory ∧
    (s.configureInput n v m).reports.mask = s.reports.mask ∧ (s.configureInput n v m).reports.seq = s.reports.seq := by
  simp only [State.configureInput]
  repeat' split
  all_goals simp

@[simp] theorem State.tick_frame (s : State) :
    (s.tick).pending = s.pending ∧ (s.tick).resetAsserted = s.resetAsserted ∧ (s.tick).freeCount = s.freeCount ∧
    (s.tick).passOwed = s.passOwed ∧ (s.tick).link = s.link ∧ (s.tick).rx = s.rx ∧ (s.tick).store = s.store ∧
    (s.tick).plates = s.plates ∧ (s.tick).sched = s.sched ∧ (s.tick).chan = s.chan ∧ (s.tick).punch = s.punch ∧
    (s.tick).bend = s.bend ∧ (s.tick).sorter = s.sorter ∧ (s.tick).inputs = s.inputs ∧ (s.tick).reports = s.reports ∧
    (s.tick).line.state = s.line.state ∧ (s.tick).line.halt = s.line.halt ∧ (s.tick).line.table = s.line.table ∧
    (s.tick).line.merge = s.line.merge ∧ (s.tick).line.out = s.line.out ∧ (s.tick).line.counter = s.line.counter := by
  and_intros <;> rfl

@[simp] theorem State.advance_frame (n : Nat) (s : State) :
    (s.advance n).pending = s.pending ∧ (s.advance n).resetAsserted = s.resetAsserted ∧
    (s.advance n).freeCount = s.freeCount ∧ (s.advance n).passOwed = s.passOwed ∧ (s.advance n).link = s.link ∧
    (s.advance n).rx = s.rx ∧ (s.advance n).store = s.store ∧ (s.advance n).plates = s.plates ∧
    (s.advance n).sched = s.sched ∧ (s.advance n).line = s.line ∧ (s.advance n).punch = s.punch ∧
    (s.advance n).bend = s.bend ∧ (s.advance n).sorter = s.sorter ∧ (s.advance n).inputs = s.inputs ∧
    (s.advance n).reports = s.reports := by
  and_intros <;> rfl

@[simp] theorem State.toNextTick_frame (s : State) :
    (s.toNextTick).pending = s.pending ∧ (s.toNextTick).resetAsserted = s.resetAsserted ∧
    (s.toNextTick).freeCount = s.freeCount ∧ (s.toNextTick).passOwed = s.passOwed ∧ (s.toNextTick).link = s.link ∧
    (s.toNextTick).rx = s.rx ∧ (s.toNextTick).store = s.store ∧ (s.toNextTick).plates = s.plates ∧
    (s.toNextTick).sched = s.sched ∧ (s.toNextTick).punch = s.punch ∧ (s.toNextTick).bend = s.bend ∧
    (s.toNextTick).sorter = s.sorter ∧ (s.toNextTick).inputs = s.inputs ∧ (s.toNextTick).reports = s.reports := by
  and_intros <;> rfl

@[simp] theorem State.referenceTick_frame (s : State) :
    (s.referenceTick).pending = s.pending ∧ (s.referenceTick).resetAsserted = s.resetAsserted ∧
    (s.referenceTick).freeCount = s.freeCount ∧ (s.referenceTick).passOwed = s.passOwed ∧
    (s.referenceTick).link = s.link ∧ (s.referenceTick).rx = s.rx ∧ (s.referenceTick).store = s.store ∧
    (s.referenceTick).plates = s.plates ∧ (s.referenceTick).sched = s.sched ∧ (s.referenceTick).punch = s.punch ∧
    (s.referenceTick).bend = s.bend ∧ (s.referenceTick).sorter = s.sorter ∧ (s.referenceTick).inputs = s.inputs ∧
    (s.referenceTick).reports = s.reports := by
  simp only [State.referenceTick]
  split <;> simp

@[simp] theorem State.takeTransfer_frame (t : Transfer) (s : State) :
    (s.takeTransfer t).pending = s.pending ∧ (s.takeTransfer t).resetAsserted = s.resetAsserted ∧
    (s.takeTransfer t).freeCount = s.freeCount ∧ (s.takeTransfer t).passOwed = s.passOwed ∧
    (s.takeTransfer t).clock = s.clock ∧ (s.takeTransfer t).plates = s.plates ∧ (s.takeTransfer t).sched = s.sched ∧
    (s.takeTransfer t).line = s.line ∧ (s.takeTransfer t).punch = s.punch ∧ (s.takeTransfer t).bend = s.bend ∧
    (s.takeTransfer t).sorter = s.sorter ∧ (s.takeTransfer t).inputs = s.inputs ∧
    (s.takeTransfer t).reports.mask = s.reports.mask ∧ (s.takeTransfer t).reports.seq = s.reports.seq ∧
    (s.takeTransfer t).link.requests = s.link.requests ∧ (s.takeTransfer t).link.replies = s.link.replies ∧
    (s.takeTransfer t).link.lane = s.link.lane ∧ (s.takeTransfer t).link.timing = s.link.timing := by
  simp only [State.takeTransfer]
  repeat' split
  all_goals simp

@[simp] theorem State.arbitratePort_frame (s : State) :
    (s.arbitratePort).pending = s.pending ∧ (s.arbitratePort).resetAsserted = s.resetAsserted ∧
    (s.arbitratePort).freeCount = s.freeCount ∧ (s.arbitratePort).passOwed = s.passOwed ∧
    (s.arbitratePort).clock = s.clock ∧ (s.arbitratePort).link = s.link ∧ (s.arbitratePort).rx = s.rx ∧
    (s.arbitratePort).plates = s.plates ∧ (s.arbitratePort).sched = s.sched ∧ (s.arbitratePort).chan = s.chan ∧
    (s.arbitratePort).line = s.line ∧ (s.arbitratePort).punch = s.punch ∧ (s.arbitratePort).bend = s.bend ∧
    (s.arbitratePort).sorter = s.sorter ∧ (s.arbitratePort).inputs = s.inputs ∧ (s.arbitratePort).reports = s.reports ∧
    (s.arbitratePort).store.memory = s.store.memory := by
  and_intros <;> rfl

@[simp] theorem State.transferEnds_frame (t : Transfer) (s : State) :
    (s.transferEnds t).pending = s.pending ∧ (s.transferEnds t).resetAsserted = s.resetAsserted ∧
    (s.transferEnds t).freeCount = s.freeCount ∧ (s.transferEnds t).passOwed = s.passOwed ∧
    (s.transferEnds t).clock = s.clock ∧ (s.transferEnds t).plates = s.plates ∧ (s.transferEnds t).sched = s.sched ∧
    (s.transferEnds t).line = s.line ∧ (s.transferEnds t).punch = s.punch ∧ (s.transferEnds t).bend = s.bend ∧
    (s.transferEnds t).sorter = s.sorter ∧ (s.transferEnds t).inputs = s.inputs ∧
    (s.transferEnds t).reports.mask = s.reports.mask ∧ (s.transferEnds t).reports.seq = s.reports.seq ∧
    (s.transferEnds t).link.requests = s.link.requests ∧ (s.transferEnds t).link.replies = s.link.replies ∧
    (s.transferEnds t).link.lane = s.link.lane ∧ (s.transferEnds t).link.timing = s.link.timing := by
  simp [State.transferEnds]

@[simp] theorem State.requestArrives_frame (kind tag : Nat) (l : List Byte) (s : State) :
    (s.requestArrives kind tag l).pending = s.pending ∧ (s.requestArrives kind tag l).resetAsserted = s.resetAsserted ∧
    (s.requestArrives kind tag l).freeCount = s.freeCount ∧ (s.requestArrives kind tag l).passOwed = s.passOwed ∧
    (s.requestArrives kind tag l).clock = s.clock ∧ (s.requestArrives kind tag l).rx = s.rx ∧
    (s.requestArrives kind tag l).store = s.store ∧ (s.requestArrives kind tag l).plates = s.plates ∧
    (s.requestArrives kind tag l).sched = s.sched ∧ (s.requestArrives kind tag l).chan = s.chan ∧
    (s.requestArrives kind tag l).line = s.line ∧ (s.requestArrives kind tag l).punch = s.punch ∧
    (s.requestArrives kind tag l).bend = s.bend ∧ (s.requestArrives kind tag l).sorter = s.sorter ∧
    (s.requestArrives kind tag l).inputs = s.inputs ∧ (s.requestArrives kind tag l).reports.mask = s.reports.mask ∧
    (s.requestArrives kind tag l).reports.seq = s.reports.seq ∧
    (s.requestArrives kind tag l).reports.events = s.reports.events ∧
    (s.requestArrives kind tag l).link.lane = s.link.lane ∧ (s.requestArrives kind tag l).link.timing = s.link.timing ∧
    (s.requestArrives kind tag l).link.holding = s.link.holding := by
  simp only [State.requestArrives]
  repeat' split
  all_goals simp

@[simp] theorem State.frameArrives_frame (l : List Byte) (s : State) :
    (s.frameArrives l).pending = s.pending ∧ (s.frameArrives l).resetAsserted = s.resetAsserted ∧
    (s.frameArrives l).freeCount = s.freeCount ∧ (s.frameArrives l).passOwed = s.passOwed ∧
    (s.frameArrives l).clock = s.clock ∧ (s.frameArrives l).plates = s.plates ∧ (s.frameArrives l).sched = s.sched ∧
    (s.frameArrives l).chan = s.chan ∧ (s.frameArrives l).line = s.line ∧ (s.frameArrives l).punch = s.punch ∧
    (s.frameArrives l).bend = s.bend ∧ (s.frameArrives l).sorter = s.sorter ∧ (s.frameArrives l).inputs = s.inputs ∧
    (s.frameArrives l).store.memory = s.store.memory ∧ (s.frameArrives l).reports.mask = s.reports.mask ∧
    (s.frameArrives l).reports.seq = s.reports.seq ∧ (s.frameArrives l).link.lane = s.link.lane ∧
    (s.frameArrives l).link.timing = s.link.timing := by
  simp only [State.frameArrives]
  repeat' split
  all_goals simp

@[simp] theorem State.laneFreed_frame (s : State) :
    (s.laneFreed).pending = s.pending ∧ (s.laneFreed).resetAsserted = s.resetAsserted ∧
    (s.laneFreed).freeCount = s.freeCount ∧ (s.laneFreed).passOwed = s.passOwed ∧ (s.laneFreed).clock = s.clock ∧
    (s.laneFreed).rx = s.rx ∧ (s.laneFreed).store = s.store ∧ (s.laneFreed).plates = s.plates ∧
    (s.laneFreed).sched = s.sched ∧ (s.laneFreed).chan = s.chan ∧ (s.laneFreed).line = s.line ∧
    (s.laneFreed).punch = s.punch ∧ (s.laneFreed).bend = s.bend ∧ (s.laneFreed).sorter = s.sorter ∧
    (s.laneFreed).inputs = s.inputs ∧ (s.laneFreed).reports = s.reports ∧
    (s.laneFreed).link.requests = s.link.requests ∧ (s.laneFreed).link.replies = s.link.replies ∧
    (s.laneFreed).link.holding = s.link.holding ∧ (s.laneFreed).link.timing = s.link.timing := by
  and_intros <;> rfl

@[simp] theorem State.encoder_frame (i : Imager) (x : Phase) (s : State) :
    (s.encoder i x).pending = s.pending ∧ (s.encoder i x).resetAsserted = s.resetAsserted ∧
    (s.encoder i x).freeCount = s.freeCount ∧ (s.encoder i x).passOwed = s.passOwed ∧ (s.encoder i x).clock = s.clock ∧
    (s.encoder i x).link = s.link ∧ (s.encoder i x).rx = s.rx ∧ (s.encoder i x).store = s.store ∧
    (s.encoder i x).plates = s.plates ∧ (s.encoder i x).sched = s.sched ∧ (s.encoder i x).line = s.line ∧
    (s.encoder i x).punch = s.punch ∧ (s.encoder i x).bend = s.bend ∧ (s.encoder i x).sorter = s.sorter ∧
    (s.encoder i x).inputs = s.inputs ∧ (s.encoder i x).reports = s.reports := by
  simp [State.encoder]

end Sys2Proof.Machine
end

