-- ==== Sys2Proof/Laws/State.lean ====
section
/-! SUPPORT. The fields of State under its updates: each lemma says what one read gives after one update. -/

namespace Sys2Proof

@[simp] theorem Pair.get_a {α : Type} (x y : α) : (Pair.mk x y).get .a = x := rfl
@[simp] theorem Pair.get_b {α : Type} (x y : α) : (Pair.mk x y).get .b = y := rfl
@[simp] theorem Pair.get_set_same {α : Type} (p : Pair α) (i : Imager) (x : α) : (p.set i x).get i = x := by
  cases i <;> rfl
@[simp] theorem Pair.get_set_other {α : Type} (p : Pair α) (i j : Imager) (x : α) (h : j ≠ i) :
    (p.set i x).get j = p.get j := by
  cases i <;> cases j <;> first | exact absurd rfl h | rfl
@[simp] theorem Pair.set_set {α : Type} (p : Pair α) (i : Imager) (x y : α) : (p.set i x).set i y = p.set i y := by
  cases i <;> rfl
@[simp] theorem Pair.set_get {α : Type} (p : Pair α) (i : Imager) : p.set i (p.get i) = p := by
  cases i <;> rfl

namespace Machine

/-! ### The condition slots (R196) -/

@[simp] theorem Slots.get_set_same (t : Slots) (src : Source) (c : Option Condition) : (t.set src c).get src = c := by
  cases src <;> rfl

@[simp] theorem Slots.get_set_other (t : Slots) (src x : Source) (c : Option Condition) (h : x ≠ src) :
    (t.set src c).get x = t.get x := by
  cases src <;> cases x <;> first | exact absurd rfl h | rfl

@[simp] theorem Reports.raise_slot (r : Reports) (src : Source) (body : ConditionBody) (now : Nat) :
    (r.raise src body now).slots.get src = some (Condition.raised (r.slots.get src) body now) := by
  simp [Reports.raise]

@[simp] theorem Reports.raise_events (r : Reports) (src : Source) (body : ConditionBody) (now : Nat) :
    (r.raise src body now).events = r.events := rfl

theorem Reports.offer_room (r : Reports) (body : EventBody) (now : Nat) (h : r.events.length < 64) :
    r.offer body now = { r with events := r.events ++ [⟨body, now⟩] } := by
  simp [Reports.offer, Config.maxReports, h]

theorem Reports.offer_full (r : Reports) (body : EventBody) (now : Nat) (h : ¬ r.events.length < 64) :
    r.offer body now = r.raise .overflow (.overflow ⟨body.type, body.level, now⟩) now := by
  simp [Reports.offer, Config.maxReports, h]

theorem Reports.offer_length (r : Reports) (body : EventBody) (now : Nat) (h : r.events.length ≤ 64) :
    (r.offer body now).events.length ≤ 64 := by
  unfold Reports.offer
  split
  · simp only [List.length_append, List.length_singleton, Config.maxReports] at *; omega
  · simpa using h

/-! ### Channels -/

@[simp] theorem State.channel_setChannel (i : Imager) (c : Channel) (s : State) : (s.setChannel i c).channel i = c := by
  simp [State.setChannel, State.channel]

@[simp] theorem State.channel_setChannel_other (i j : Imager) (c : Channel) (s : State) (h : j ≠ i) :
    (s.setChannel i c).channel j = s.channel j := by
  simp [State.setChannel, State.channel, h]

@[simp] theorem State.channel_modifySeq (i : Imager) (f : Sequencer → Sequencer) (s : State) :
    (s.modifySeq i f).channel i = { s.channel i with seq := f (s.channel i).seq } := by
  simp [State.modifySeq]

@[simp] theorem State.channel_modifyOut (i : Imager) (f : ImagerOut → ImagerOut) (s : State) :
    (s.modifyOut i f).channel i = { s.channel i with out := f (s.channel i).out } := by
  simp [State.modifyOut]

@[simp] theorem State.channel_requestPort (i : Imager) (r : Requester) (s : State) :
    (s.requestPort r).channel i = s.channel i := rfl

@[simp] theorem State.channel_withdrawPort (i : Imager) (r : Requester) (s : State) :
    (s.withdrawPort r).channel i = s.channel i := rfl

@[simp] theorem State.channel_raise (i : Imager) (src : Source) (b : ConditionBody) (s : State) :
    (s.raise src b).channel i = s.channel i := rfl

@[simp] theorem State.channel_offer (i : Imager) (b : EventBody) (s : State) : (s.offer b).channel i = s.channel i := rfl

/-! ### Times -/

@[simp] theorem State.now_setChannel (i : Imager) (c : Channel) (s : State) : (s.setChannel i c).now = s.now := rfl
@[simp] theorem State.now_requestPort (r : Requester) (s : State) : (s.requestPort r).now = s.now := rfl
@[simp] theorem State.now_withdrawPort (r : Requester) (s : State) : (s.withdrawPort r).now = s.now := rfl
@[simp] theorem State.now_raise (src : Source) (b : ConditionBody) (s : State) : (s.raise src b).now = s.now := rfl
@[simp] theorem State.now_offer (b : EventBody) (s : State) : (s.offer b).now = s.now := rfl

theorem elapsed_self (t : Nat) : elapsed t t = 0 := by
  simp only [elapsed, Config.timeModulus]; omega

theorem elapsed_lt (a b : Nat) : elapsed a b < 4294967296 := Nat.mod_lt _ (by decide)

theorem deadlineAfter_lt (t d : Nat) : deadlineAfter t d < 4294967296 := Nat.mod_lt _ (by decide)

/-! ### Exits (R176) -/

theorem Sorter.deposited_frame (t : Sorter) (d : Destination) :
    (t.deposited d).state = t.state ∧ (t.deposited d).item = t.item ∧ (t.deposited d).destination = t.destination ∧
      (t.deposited d).divert = t.divert ∧ (t.deposited d).redirected = t.redirected ∧
      (t.deposited d).exitCode = t.exitCode := by
  unfold Sorter.deposited
  repeat' split
  all_goals simp [Sorter.setCart]

end Machine

end Sys2Proof
end

