-- ==== Sys2Proof/Laws/Commands.lean ====
section
/-! SUPPORT. Every command is one of three shapes: an event (`taken`), a request (`request`), or one of the two reset
commands. The lemmas say once what each shape can do. -/

namespace Sys2Proof.Machine

@[simp] theorem State.pump_frame (s : State) :
    s.pump.pending = s.pending ∧ s.pump.resetAsserted = s.resetAsserted ∧ s.pump.clock = s.clock ∧ s.pump.rx = s.rx ∧
    s.pump.store = s.store ∧ s.pump.plates = s.plates ∧ s.pump.sched = s.sched ∧ s.pump.chan = s.chan ∧
    s.pump.line = s.line ∧ s.pump.punch = s.punch ∧ s.pump.bend = s.bend ∧ s.pump.sorter = s.sorter ∧
    s.pump.inputs = s.inputs ∧ s.pump.link.requests = s.link.requests ∧ s.pump.link.timing = s.link.timing ∧
    s.pump.link.holding = s.link.holding ∧ s.pump.reports.mask = s.reports.mask := by
  unfold State.pump
  repeat' split
  all_goals simp [Reports.remove]
  all_goals split <;> simp

/-- A frame in progress holds the lane (R197). -/
theorem State.pump_busy (s : State) (f : UpFrame) (h : s.link.lane = some f) : s.pump = s := by
  simp [State.pump, h]

/-- On an idle lane the oldest reply goes before any report (R197). -/
theorem State.pump_reply (s : State) (r : Reply) (rs : List Reply) (hl : s.link.lane = none)
    (hr : s.link.replies = r :: rs) :
    s.pump = { s with link := { s.link with lane := some r.frame, replies := rs } } := by
  simp [State.pump, hl, hr]

@[simp] theorem State.pump_owed (s : State) : s.pump.passOwed = s.passOwed := by
  unfold State.pump
  repeat' split
  all_goals rfl

/-- What follows an event's effects leaves the line, the stations and the records alone (R66, R197). -/
@[simp] theorem State.finish_frame (s : State) :
    s.finish.pending = s.pending ∧ s.finish.resetAsserted = s.resetAsserted ∧ s.finish.passOwed = false ∧
    s.finish.clock = s.clock ∧ s.finish.rx = s.rx ∧ s.finish.line = s.line ∧ s.finish.punch = s.punch ∧
    s.finish.bend = s.bend ∧ s.finish.sorter = s.sorter ∧ s.finish.inputs = s.inputs ∧
    s.finish.store.memory = s.store.memory ∧ s.finish.link.requests = s.link.requests ∧
    s.finish.link.timing = s.link.timing ∧ s.finish.link.holding = s.link.holding ∧
    s.finish.reports.mask = s.reports.mask ∧ s.finish.plates.map = s.plates.map ∧ s.finish.plates.sizes = s.plates.sizes := by
  simp [State.finish]

/-- An event that calls for no dispatch pass (R66). -/
theorem State.finish_none (s : State) (h : s.passOwed = false) : s.finish = s.pump := by
  simp [State.finish, State.makePass_none s h]

/-- An event that calls for a dispatch pass gets its own (R66, R67). -/
theorem State.finish_owing (s : State) (h : s.passOwed = true) : s.finish = s.dispatchPass.pump := by
  simp [State.finish, State.makePass_owing s h]

/-- An event changes nothing while reset is asserted, and otherwise has its effect. -/
theorem taken_next {f : State → State} {s t : State} (h : taken f s = .next t) :
    (s.resetAsserted = true ∧ t = s) ∨ (s.resetAsserted = false ∧ t = (f s).finish) := by
  unfold taken at h
  split at h <;> simp_all

theorem taken_running (f : State → State) (s : State) (h : s.resetAsserted = false) : taken f s = .next (f s).finish := by
  simp [taken, h]

theorem taken_reset (f : State → State) (s : State) (h : s.resetAsserted = true) : taken f s = .next s := by
  simp [taken, h]

/-- The four things that can become of a request command (R191, log 3). -/
theorem State.handOn_cases (t : TaggedRequest) (f : State → Answer) (s : State) :
    (s.link.replies.length < 16 ∧ s.handOn t f = (f s).replied t) ∨
    (s.link.requests = [] ∧ ¬ s.link.replies.length < 16 ∧
      s.handOn t f = { s with link := { s.link with requests := [t] } }) ∨
    s.handOn t f = s := by
  unfold State.handOn
  split
  · split
    · exact .inl ⟨‹_›, rfl⟩
    · split
      · exact .inr (.inl ⟨by simpa using ‹s.link.requests.isEmpty = true›, ‹_›, rfl⟩)
      · exact .inr (.inr rfl)
  · exact .inr (.inr rfl)

/-- A request that is ready is applied and answered (R191). -/
theorem request_ready {t : TaggedRequest} {f : State → Answer} {s : State} (h : Ready s t) :
    request t f s = .next ((f s).state.answering t (f s).code (f s).result) := by
  obtain ⟨hr, hl, hq⟩ := h
  have hon : s.link.handsOn t = true := by
    unfold Link.handsOn
    rcases hq with hq | hq
    · simp [hq]
    · cases hs : s.link.requests with
      | nil => simp
      | cons u us => simp [hs] at hq; simp [hq]
  simp only [request, taken, hr, State.handOn, hon, hl, Config.maxReplies, Answer.replied, State.addReply, State.answering]
  simp only [Bool.false_eq_true, if_false, if_true]
  rw [State.finish_none _ (by simp)]

/-- A request that is refused changes nothing but the queue and the reply list. -/
theorem request_refused {t : TaggedRequest} {f : State → Answer} {s : State} {c : Code} (h : Ready s t)
    (hf : f s = refuse c s) : request t f s = .next (s.answering t c []) := by
  rw [request_ready h, hf]; rfl

@[simp] theorem accept_state (s : State) : (accept s).state = s := rfl
@[simp] theorem accept_code (s : State) : (accept s).code = .ok := rfl
@[simp] theorem accept_result (s : State) : (accept s).result = [] := rfl
@[simp] theorem refuse_state (c : Code) (s : State) : (refuse c s).state = s := rfl
@[simp] theorem refuse_code (c : Code) (s : State) : (refuse c s).code = c := rfl
@[simp] theorem refuse_result (c : Code) (s : State) : (refuse c s).result = [] := rfl
@[simp] theorem answered_state (r : Code × List Byte) (s : State) : (answered r s).state = s := rfl

@[simp] theorem State.answering_frame (v : State) (t : TaggedRequest) (c : Code) (r : List Byte) :
    (v.answering t c r).pending = v.pending ∧ (v.answering t c r).clock = v.clock ∧ (v.answering t c r).rx = v.rx ∧
    (v.answering t c r).store = v.makePass.store ∧ (v.answering t c r).plates = v.makePass.plates ∧
    (v.answering t c r).sched = v.makePass.sched ∧ (v.answering t c r).chan = v.makePass.chan ∧
    (v.answering t c r).passOwed = false ∧ (v.answering t c r).line = v.line ∧
    (v.answering t c r).punch = v.punch ∧ (v.answering t c r).bend = v.bend ∧
    (v.answering t c r).sorter = v.sorter ∧ (v.answering t c r).inputs = v.inputs ∧
    (v.answering t c r).reports.mask = v.reports.mask ∧ (v.answering t c r).link.timing = v.link.timing ∧
    (v.answering t c r).link.requests = v.link.requests.tail := by
  simp [State.answering]

/-- The attach events at the release of reset change the carts alone (R99). -/
theorem State.attachFound_eq (ns : List Nat) (s : State) :
    s.attachFound ns =
      { s with sorter := ns.foldl (fun t n => if (s.input (cartInput n)).active then t.attach n else t) s.sorter } := by
  induction ns generalizing s with
  | nil => rfl
  | cons n ns ih =>
    rw [State.attachFound, ih, List.foldl_cons]
    split <;> rfl

/-! ### The raster memory is written by TRANSFER_END alone -/

theorem State.lineWritten_wf (j : WriteJob) (s : State) (h : Memory.wf s.store.memory) :
    Memory.wf (s.lineWritten j).store.memory := by
  unfold State.lineWritten
  split <;> simpa using Memory.writeBytes_wf _ _ _ h

theorem State.transferEnds_wf (t : Transfer) (s : State) (h : Memory.wf s.store.memory) :
    Memory.wf (s.transferEnds t).store.memory := by
  unfold State.transferEnds
  simp only [State.arbitratePort_frame, State.takeTransfer]
  repeat' split
  all_goals first | exact h | simpa using h | exact State.lineWritten_wf _ _ h

end Sys2Proof.Machine
end

