-- ==== Sys2Proof/Laws/Requests.lean ====
section
/-! SUPPORT. Frames of the requests: what no request changes, whatever it does: the raster memory, the request queue and
the reply list (the handing on changes those), the sequence number, the time. -/

namespace Sys2Proof.Machine

@[simp] theorem applyPageOpen_frame (st : Nat) (k : PageKey) (v w h r : Nat) (s : State) :
    (applyPageOpen st k v w h r s).state.pending = s.pending ∧
    (applyPageOpen st k v w h r s).state.resetAsserted = s.resetAsserted ∧
    (applyPageOpen st k v w h r s).state.clock = s.clock ∧
    (applyPageOpen st k v w h r s).state.store.memory = s.store.memory ∧
    (applyPageOpen st k v w h r s).state.link.requests = s.link.requests ∧
    (applyPageOpen st k v w h r s).state.link.replies = s.link.replies ∧
    (applyPageOpen st k v w h r s).state.link.lane = s.link.lane ∧
    (applyPageOpen st k v w h r s).state.reports.seq = s.reports.seq := by
  simp only [applyPageOpen]
  repeat' split
  all_goals simp

@[simp] theorem applyPageAbandon_frame (st : Nat) (s : State) :
    (applyPageAbandon st s).state.pending = s.pending ∧
    (applyPageAbandon st s).state.resetAsserted = s.resetAsserted ∧ (applyPageAbandon st s).state.clock = s.clock ∧
    (applyPageAbandon st s).state.store.memory = s.store.memory ∧
    (applyPageAbandon st s).state.link.requests = s.link.requests ∧
    (applyPageAbandon st s).state.link.replies = s.link.replies ∧
    (applyPageAbandon st s).state.link.lane = s.link.lane ∧
    (applyPageAbandon st s).state.reports.seq = s.reports.seq := by
  simp only [applyPageAbandon]
  repeat' split
  all_goals simp

@[simp] theorem applyPageRelease_frame (k : PageKey) (v : Nat) (s : State) :
    (applyPageRelease k v s).state.pending = s.pending ∧
    (applyPageRelease k v s).state.resetAsserted = s.resetAsserted ∧ (applyPageRelease k v s).state.clock = s.clock ∧
    (applyPageRelease k v s).state.store.memory = s.store.memory ∧
    (applyPageRelease k v s).state.link.requests = s.link.requests ∧
    (applyPageRelease k v s).state.link.replies = s.link.replies ∧
    (applyPageRelease k v s).state.link.lane = s.link.lane ∧
    (applyPageRelease k v s).state.reports.seq = s.reports.seq := by
  simp only [applyPageRelease]
  repeat' split
  all_goals simp

@[simp] theorem applySizeLoad_frame (c l x : Nat) (s : State) :
    (applySizeLoad c l x s).state.pending = s.pending ∧
    (applySizeLoad c l x s).state.resetAsserted = s.resetAsserted ∧ (applySizeLoad c l x s).state.clock = s.clock ∧
    (applySizeLoad c l x s).state.store.memory = s.store.memory ∧
    (applySizeLoad c l x s).state.link.requests = s.link.requests ∧
    (applySizeLoad c l x s).state.link.replies = s.link.replies ∧
    (applySizeLoad c l x s).state.link.lane = s.link.lane ∧
    (applySizeLoad c l x s).state.reports.seq = s.reports.seq := by
  simp only [applySizeLoad]
  repeat' split
  all_goals simp

@[simp] theorem applyMapLoad_frame (p : PlateId) (z c a : Nat) (ps : List PosArgs) (s : State) :
    (applyMapLoad p z c a ps s).state.pending = s.pending ∧
    (applyMapLoad p z c a ps s).state.resetAsserted = s.resetAsserted ∧
    (applyMapLoad p z c a ps s).state.clock = s.clock ∧
    (applyMapLoad p z c a ps s).state.store.memory = s.store.memory ∧
    (applyMapLoad p z c a ps s).state.link.requests = s.link.requests ∧
    (applyMapLoad p z c a ps s).state.link.replies = s.link.replies ∧
    (applyMapLoad p z c a ps s).state.link.lane = s.link.lane ∧
    (applyMapLoad p z c a ps s).state.reports.seq = s.reports.seq := by
  simp only [applyMapLoad]
  repeat' split
  all_goals simp

@[simp] theorem applyMapDelete_frame (p : PlateId) (s : State) :
    (applyMapDelete p s).state.pending = s.pending ∧ (applyMapDelete p s).state.resetAsserted = s.resetAsserted ∧
    (applyMapDelete p s).state.clock = s.clock ∧ (applyMapDelete p s).state.store.memory = s.store.memory ∧
    (applyMapDelete p s).state.link.requests = s.link.requests ∧
    (applyMapDelete p s).state.link.replies = s.link.replies ∧ (applyMapDelete p s).state.link.lane = s.link.lane ∧
    (applyMapDelete p s).state.reports.seq = s.reports.seq := by
  simp only [applyMapDelete]
  repeat' split
  all_goals simp

@[simp] theorem applyPlateCancel_frame (p : PlateId) (s : State) :
    (applyPlateCancel p s).state.pending = s.pending ∧ (applyPlateCancel p s).state.resetAsserted = s.resetAsserted ∧
    (applyPlateCancel p s).state.clock = s.clock ∧ (applyPlateCancel p s).state.store.memory = s.store.memory ∧
    (applyPlateCancel p s).state.link.requests = s.link.requests ∧
    (applyPlateCancel p s).state.link.replies = s.link.replies ∧
    (applyPlateCancel p s).state.link.lane = s.link.lane ∧
    (applyPlateCancel p s).state.reports.seq = s.reports.seq := by
  simp only [applyPlateCancel]
  repeat' split
  all_goals simp

@[simp] theorem applyReplate_frame (f : Nat) (p : PlateId) (s : State) :
    (applyReplate f p s).state.pending = s.pending ∧ (applyReplate f p s).state.resetAsserted = s.resetAsserted ∧
    (applyReplate f p s).state.clock = s.clock ∧ (applyReplate f p s).state.store.memory = s.store.memory ∧
    (applyReplate f p s).state.link.requests = s.link.requests ∧
    (applyReplate f p s).state.link.replies = s.link.replies ∧ (applyReplate f p s).state.link.lane = s.link.lane ∧
    (applyReplate f p s).state.reports.seq = s.reports.seq := by
  simp only [applyReplate]
  repeat' split
  all_goals simp

@[simp] theorem applyHold_frame (p : PlateId) (h : Bool) (s : State) :
    (applyHold p h s).state.pending = s.pending ∧ (applyHold p h s).state.resetAsserted = s.resetAsserted ∧
    (applyHold p h s).state.clock = s.clock ∧ (applyHold p h s).state.store.memory = s.store.memory ∧
    (applyHold p h s).state.link.requests = s.link.requests ∧ (applyHold p h s).state.link.replies = s.link.replies ∧
    (applyHold p h s).state.link.lane = s.link.lane ∧ (applyHold p h s).state.reports.seq = s.reports.seq := by
  simp only [applyHold]
  repeat' split
  all_goals simp

@[simp] theorem applyLineHold_frame (l : Nat) (h : Bool) (s : State) :
    (applyLineHold l h s).state.pending = s.pending ∧ (applyLineHold l h s).state.resetAsserted = s.resetAsserted ∧
    (applyLineHold l h s).state.clock = s.clock ∧ (applyLineHold l h s).state.store.memory = s.store.memory ∧
    (applyLineHold l h s).state.link.requests = s.link.requests ∧
    (applyLineHold l h s).state.link.replies = s.link.replies ∧ (applyLineHold l h s).state.link.lane = s.link.lane ∧
    (applyLineHold l h s).state.reports.seq = s.reports.seq := by
  simp only [applyLineHold]
  repeat' split
  all_goals simp

@[simp] theorem applyLineAssign_frame (l p : Nat) (s : State) :
    (applyLineAssign l p s).state.pending = s.pending ∧
    (applyLineAssign l p s).state.resetAsserted = s.resetAsserted ∧ (applyLineAssign l p s).state.clock = s.clock ∧
    (applyLineAssign l p s).state.store.memory = s.store.memory ∧
    (applyLineAssign l p s).state.link.requests = s.link.requests ∧
    (applyLineAssign l p s).state.link.replies = s.link.replies ∧
    (applyLineAssign l p s).state.link.lane = s.link.lane ∧
    (applyLineAssign l p s).state.reports.seq = s.reports.seq := by
  simp only [applyLineAssign]
  repeat' split
  all_goals simp

@[simp] theorem applyStockSet_frame (i z c : Nat) (s : State) :
    (applyStockSet i z c s).state.pending = s.pending ∧
    (applyStockSet i z c s).state.resetAsserted = s.resetAsserted ∧ (applyStockSet i z c s).state.clock = s.clock ∧
    (applyStockSet i z c s).state.store.memory = s.store.memory ∧
    (applyStockSet i z c s).state.link.requests = s.link.requests ∧
    (applyStockSet i z c s).state.link.replies = s.link.replies ∧
    (applyStockSet i z c s).state.link.lane = s.link.lane ∧
    (applyStockSet i z c s).state.reports.seq = s.reports.seq := by
  simp only [applyStockSet]
  repeat' split
  all_goals simp

@[simp] theorem applySensorSet_frame (n e f : Nat) (s : State) :
    (applySensorSet n e f s).state.pending = s.pending ∧
    (applySensorSet n e f s).state.resetAsserted = s.resetAsserted ∧ (applySensorSet n e f s).state.clock = s.clock ∧
    (applySensorSet n e f s).state.store.memory = s.store.memory ∧
    (applySensorSet n e f s).state.link.requests = s.link.requests ∧
    (applySensorSet n e f s).state.link.replies = s.link.replies ∧
    (applySensorSet n e f s).state.link.lane = s.link.lane ∧
    (applySensorSet n e f s).state.reports.seq = s.reports.seq := by
  simp only [applySensorSet]
  repeat' split
  all_goals simp

@[simp] theorem applyImagerSet_frame (i : Nat) (a : SettingArgs) (s : State) :
    (applyImagerSet i a s).state.pending = s.pending ∧ (applyImagerSet i a s).state.resetAsserted = s.resetAsserted ∧
    (applyImagerSet i a s).state.clock = s.clock ∧ (applyImagerSet i a s).state.store.memory = s.store.memory ∧
    (applyImagerSet i a s).state.link.requests = s.link.requests ∧
    (applyImagerSet i a s).state.link.replies = s.link.replies ∧
    (applyImagerSet i a s).state.link.lane = s.link.lane ∧
    (applyImagerSet i a s).state.reports.seq = s.reports.seq := by
  simp only [applyImagerSet]
  repeat' split
  all_goals simp

@[simp] theorem applyImagerClear_frame (i : Nat) (s : State) :
    (applyImagerClear i s).state.pending = s.pending ∧ (applyImagerClear i s).state.resetAsserted = s.resetAsserted ∧
    (applyImagerClear i s).state.clock = s.clock ∧ (applyImagerClear i s).state.store.memory = s.store.memory ∧
    (applyImagerClear i s).state.link.requests = s.link.requests ∧
    (applyImagerClear i s).state.link.replies = s.link.replies ∧
    (applyImagerClear i s).state.link.lane = s.link.lane ∧
    (applyImagerClear i s).state.reports.seq = s.reports.seq := by
  simp only [applyImagerClear]
  repeat' split
  all_goals simp

@[simp] theorem applyWindowLoad_frame (e lo hi : Nat) (s : State) :
    (applyWindowLoad e lo hi s).state.pending = s.pending ∧
    (applyWindowLoad e lo hi s).state.resetAsserted = s.resetAsserted ∧
    (applyWindowLoad e lo hi s).state.clock = s.clock ∧
    (applyWindowLoad e lo hi s).state.store.memory = s.store.memory ∧
    (applyWindowLoad e lo hi s).state.link.requests = s.link.requests ∧
    (applyWindowLoad e lo hi s).state.link.replies = s.link.replies ∧
    (applyWindowLoad e lo hi s).state.link.lane = s.link.lane ∧
    (applyWindowLoad e lo hi s).state.reports.seq = s.reports.seq := by
  simp only [applyWindowLoad]
  repeat' split
  all_goals simp

@[simp] theorem applyLineStart_frame (s : State) :
    (applyLineStart s).state.pending = s.pending ∧ (applyLineStart s).state.resetAsserted = s.resetAsserted ∧
    (applyLineStart s).state.clock = s.clock ∧ (applyLineStart s).state.store.memory = s.store.memory ∧
    (applyLineStart s).state.link.requests = s.link.requests ∧
    (applyLineStart s).state.link.replies = s.link.replies ∧ (applyLineStart s).state.link.lane = s.link.lane ∧
    (applyLineStart s).state.reports.seq = s.reports.seq := by
  simp only [applyLineStart]
  repeat' split
  all_goals simp

@[simp] theorem applyLineStop_frame (s : State) :
    (applyLineStop s).state.pending = s.pending ∧ (applyLineStop s).state.resetAsserted = s.resetAsserted ∧
    (applyLineStop s).state.clock = s.clock ∧ (applyLineStop s).state.store.memory = s.store.memory ∧
    (applyLineStop s).state.link.requests = s.link.requests ∧ (applyLineStop s).state.link.replies = s.link.replies ∧
    (applyLineStop s).state.link.lane = s.link.lane ∧ (applyLineStop s).state.reports.seq = s.reports.seq := by
  simp only [applyLineStop]
  repeat' split
  all_goals simp

@[simp] theorem applyLineResume_frame (d : Nat) (s : State) :
    (applyLineResume d s).state.pending = s.pending ∧ (applyLineResume d s).state.resetAsserted = s.resetAsserted ∧
    (applyLineResume d s).state.clock = s.clock ∧ (applyLineResume d s).state.store.memory = s.store.memory ∧
    (applyLineResume d s).state.link.requests = s.link.requests ∧
    (applyLineResume d s).state.link.replies = s.link.replies ∧ (applyLineResume d s).state.link.lane = s.link.lane ∧
    (applyLineResume d s).state.reports.seq = s.reports.seq := by
  simp only [applyLineResume]
  repeat' split
  all_goals simp

@[simp] theorem applyPressSet_frame (p a b : Nat) (fs : List Int) (s : State) :
    (applyPressSet p a b fs s).state.pending = s.pending ∧
    (applyPressSet p a b fs s).state.resetAsserted = s.resetAsserted ∧
    (applyPressSet p a b fs s).state.clock = s.clock ∧
    (applyPressSet p a b fs s).state.store.memory = s.store.memory ∧
    (applyPressSet p a b fs s).state.link.requests = s.link.requests ∧
    (applyPressSet p a b fs s).state.link.replies = s.link.replies ∧
    (applyPressSet p a b fs s).state.link.lane = s.link.lane ∧
    (applyPressSet p a b fs s).state.reports.seq = s.reports.seq := by
  simp only [applyPressSet]
  repeat' split
  all_goals simp

@[simp] theorem applyPatternLoad_frame (p : Nat) (ds : List Nat) (s : State) :
    (applyPatternLoad p ds s).state.pending = s.pending ∧
    (applyPatternLoad p ds s).state.resetAsserted = s.resetAsserted ∧
    (applyPatternLoad p ds s).state.clock = s.clock ∧ (applyPatternLoad p ds s).state.store.memory = s.store.memory ∧
    (applyPatternLoad p ds s).state.link.requests = s.link.requests ∧
    (applyPatternLoad p ds s).state.link.replies = s.link.replies ∧
    (applyPatternLoad p ds s).state.link.lane = s.link.lane ∧
    (applyPatternLoad p ds s).state.reports.seq = s.reports.seq := by
  simp only [applyPatternLoad]
  repeat' split
  all_goals simp

@[simp] theorem applyProfileLoad_frame (p l e : Nat) (s : State) :
    (applyProfileLoad p l e s).state.pending = s.pending ∧
    (applyProfileLoad p l e s).state.resetAsserted = s.resetAsserted ∧
    (applyProfileLoad p l e s).state.clock = s.clock ∧
    (applyProfileLoad p l e s).state.store.memory = s.store.memory ∧
    (applyProfileLoad p l e s).state.link.requests = s.link.requests ∧
    (applyProfileLoad p l e s).state.link.replies = s.link.replies ∧
    (applyProfileLoad p l e s).state.link.lane = s.link.lane ∧
    (applyProfileLoad p l e s).state.reports.seq = s.reports.seq := by
  simp only [applyProfileLoad]
  repeat' split
  all_goals simp

@[simp] theorem applyCartLayout_frame (c u a : Nat) (s : State) :
    (applyCartLayout c u a s).state.pending = s.pending ∧
    (applyCartLayout c u a s).state.resetAsserted = s.resetAsserted ∧
    (applyCartLayout c u a s).state.clock = s.clock ∧ (applyCartLayout c u a s).state.store.memory = s.store.memory ∧
    (applyCartLayout c u a s).state.link.requests = s.link.requests ∧
    (applyCartLayout c u a s).state.link.replies = s.link.replies ∧
    (applyCartLayout c u a s).state.link.lane = s.link.lane ∧
    (applyCartLayout c u a s).state.reports.seq = s.reports.seq := by
  simp only [applyCartLayout]
  repeat' split
  all_goals simp

@[simp] theorem applyTimingLoad_frame (e v : Nat) (s : State) :
    (applyTimingLoad e v s).state.pending = s.pending ∧
    (applyTimingLoad e v s).state.resetAsserted = s.resetAsserted ∧ (applyTimingLoad e v s).state.clock = s.clock ∧
    (applyTimingLoad e v s).state.store.memory = s.store.memory ∧
    (applyTimingLoad e v s).state.link.requests = s.link.requests ∧
    (applyTimingLoad e v s).state.link.replies = s.link.replies ∧
    (applyTimingLoad e v s).state.link.lane = s.link.lane ∧
    (applyTimingLoad e v s).state.reports.seq = s.reports.seq := by
  simp only [applyTimingLoad]
  repeat' split
  all_goals simp

@[simp] theorem applyReportMask_frame (m : Nat) (s : State) :
    (applyReportMask m s).state.pending = s.pending ∧ (applyReportMask m s).state.resetAsserted = s.resetAsserted ∧
    (applyReportMask m s).state.clock = s.clock ∧ (applyReportMask m s).state.store.memory = s.store.memory ∧
    (applyReportMask m s).state.link.requests = s.link.requests ∧
    (applyReportMask m s).state.link.replies = s.link.replies ∧ (applyReportMask m s).state.link.lane = s.link.lane ∧
    (applyReportMask m s).state.reports.seq = s.reports.seq := by
  simp only [applyReportMask]
  repeat' split
  all_goals simp

@[simp] theorem applyRestart_frame (s : State) :
    (applyRestart s).state.pending = s.pending ∧ (applyRestart s).state.resetAsserted = s.resetAsserted ∧
    (applyRestart s).state.clock = s.clock ∧ (applyRestart s).state.store.memory = s.store.memory ∧
    (applyRestart s).state.link.requests = s.link.requests ∧ (applyRestart s).state.link.replies = s.link.replies ∧
    (applyRestart s).state.link.lane = s.link.lane ∧ (applyRestart s).state.reports.seq = s.reports.seq := by
  simp only [applyRestart]
  all_goals simp

end Sys2Proof.Machine
end

