-- ==== Sys2Proof/Laws/Events.lean ====
section
/-! SUPPORT. What single operations do, in the terms that the statements use: one lemma for each operation, for a proof to
cite in place of its definition. -/

namespace Sys2Proof.Machine

/-- A drop of a record leaves what Table 1.4 says (R18). -/
theorem State.dropRecord_eq (r : PageRecord) (c : DropCause) (o : Option Nat) (v : Nat) (s : State) :
    s.dropRecord r c o v = s.dropped r c o v := by
  rcases s with ⟨a,b,c',d0,d,e,⟨f1,f2⟩,g,h,i,j,k,l,m,n,o',p⟩
  unfold State.dropRecord State.discardRecord State.abandonWrite State.dropped
  cases f2 with
  | none =>
    cases hr : r.stream <;> simp [State.setContext, Store.giveBack, State.offer, State.now, PageRecord.isFor]
  | some j =>
    by_cases h : j.key = r.key ∧ j.version = r.version
    · cases hr : r.stream <;> simp [State.setContext, Store.giveBack, State.offer, State.now, PageRecord.isFor, h, State.withdrawPort]
    · cases hr : r.stream <;> simp [State.setContext, Store.giveBack, State.offer, State.now, PageRecord.isFor, h]

/-- A second arbitration grants nothing more (R6). -/
theorem Port.arbitrate_idem (p : Port) : p.arbitrate.arbitrate = p.arbitrate := by
  unfold Port.arbitrate
  cases hb : p.busy with
  | some t => simp [hb]
  | none =>
    simp only [Port.grant]
    by_cases h1 : p.waits p.last.next = true
    · simp [h1]
    by_cases h2 : p.waits p.last.next.next = true
    · simp [h1,h2]
    by_cases h3 : p.waits p.last = true
    · simp [h1,h2,h3]
    · simp [h1,h2,h3,hb]

/-- The freeing condition of a record that the directory holds (R20, R22). -/
theorem Store.evalFree_eq (t : Store) (k : PageKey) (v : Nat) (r : PageRecord) (h : t.find k v = some r) :
   t.evalFree k v = if r.refs = 0 ∧ (r.state = .superseded ∨ (r.state = .current ∧ r.retain = false)) ∧
          ¬ (∃ m ∈ t.notices, m.key = k ∧ m.version = v) then { t with
                directory := t.directory.filter fun q => !decide (q.key = k ∧ q.version = v),
                idleCells := t.idleCells ++ r.chain, freeCells := t.freeCells + r.height } else t := by
  have hkv : r.key = k ∧ r.version = v := by
    have := List.find?_some h
    simpa [PageRecord.isFor] using this
  unfold Store.evalFree
  rw [h]
  have : (r.freeable && !t.deferred k v) = decide (r.refs = 0 ∧ (r.state = .superseded ∨ (r.state = .current ∧ r.retain = false)) ∧
          ¬ (∃ m ∈ t.notices, m.key = k ∧ m.version = v)) := by
    rw [Bool.eq_iff_iff]
    simp [PageRecord.freeable, Store.deferred]
    tauto
  simp only [this, decide_eq_true_eq]
  split
  · simp [Store.giveBack, PageRecord.isFor, hkv.1, hkv.2]
  · rfl

/-- Binding positions raises the count of each record by the number bound to it (R40). -/
theorem Store.addRefs_eq (bs : List Binding) (t : Store) :
    t.addRefs bs = { t with
      directory := t.directory.map fun r => { r with refs := r.refs + bs.count (.bound r.key r.version) } } := by
  induction bs generalizing t with
  | nil => simp [Store.addRefs]
  | cons b bs ih =>
    cases b with
    | bound k v =>
      simp only [Store.addRefs, ih, Store.addRef, Store.modify, List.map_map]
      congr 1
      apply List.map_congr_left
      intro r _
      simp only [Function.comp, PageRecord.isFor, List.count_cons]
      by_cases h : r.key = k ∧ r.version = v
      · simp [h]; omega
      · have : ¬ (Binding.bound k v = .bound r.key r.version) := by simp; tauto
        simp [this]
        by_cases h1 : r.key = k
        · have h2 : ¬ r.version = v := fun h2 => h ⟨h1, h2⟩
          simp [h2]
        · simp [h1]
    | waiting => simp [Store.addRefs, ih]
    | blank => simp [Store.addRefs, ih]

/-- An insertion before the first number that the test admits (R57). -/
theorem insertBefore_eq (f : Nat → Bool) (n : Nat) (l : List Nat) :
    insertBefore f n l = l.takeWhile (fun x => !f x) ++ n :: l.drop (l.takeWhile (fun x => !f x)).length := by
  induction l with
  | nil => rfl
  | cons x l ih =>
    simp only [insertBefore, List.takeWhile_cons]
    cases hf : f x <;> simp [ih]

/-- The ranges of a plate id (R26). -/
theorem plateOk_iff (p : PlateId) : plateOk p = true ↔ (p.line ≤ 7 ∧ p.unit ≤ 11 ∧ p.face ≤ 1 ∧ p.across ≤ 3) := by
  simp [plateOk, and_assoc]

/-- The map holds no entry for a plate id. -/
theorem State.entry_isNone (s : State) (p : PlateId) : (s.entry p).isNone = true ↔ ∀ e ∈ s.plates.map, e.id ≠ p := by
  simp [State.entry]

/-- The request granted: the lowest class, and of that class the first taken (R137). -/
theorem winner_eq (before after : List ExitRequest) (r : ExitRequest)
    (h1 : ∀ q ∈ before, r.cls < q.cls) (h2 : ∀ q ∈ after, r.cls ≤ q.cls) : winner (before ++ r :: after) = some r := by
  have hmem : ∀ l : List ExitRequest, ∀ q, winner l = some q → q ∈ l := by
    intro l; induction l with
    | nil => simp [winner]
    | cons a l ih =>
      intro q h; simp only [winner] at h
      cases hw : winner l with
      | none => simp [hw] at h; simp [h]
      | some q' => simp only [hw] at h; have := ih q' hw; split_ifs at h <;> simp at h <;> subst h <;> simp [this]
  induction before with
  | nil =>
    simp only [List.nil_append, winner]
    cases hw : winner after with
    | none => rfl
    | some q => have := h2 q (hmem _ _ hw); simp only; rw [if_neg (by omega)]
  | cons a l ih =>
    simp only [List.cons_append, winner, ih (fun q hq => h1 q (by simp [hq]))]
    rw [if_pos (h1 a (by simp))]

/-- The acceptance of an active edge is taken by the unit that the input belongs to (R97, R98). -/
theorem State.arrival_eq {s : State} {n : Nat} {x : Input} {p : PendingChange} (h : accepting s n x p) (h5 : x.raw = x.rising) :
    State.arrival n s = (s.accepted n x).takeArrival n (stampOf x p) := by
  obtain ⟨h1, h2, h3, h4⟩ := h
  have hx : s.input n = x := by simp [State.input, List.getD, h1]
  have hm : s.arrives n = true := by
    simp [State.arrives, hx, Input.mature, h2, Input.acceptTick, Config.ticksPerMs, h3, h4, Input.activeEdge, h5]
  rw [State.arrival, if_pos hm]
  simp [State.acceptInput, hx, Input.stamp, h2, State.accepted, Input.accepted, stampOf, Input.acceptTick, Config.ticksPerMs, Config.timeModulus]

/-- The acceptance of an inactive edge: a cart input detaches its cart (R97, R99). -/
theorem State.departure_eq {s : State} {n : Nat} {x : Input} {p : PendingChange} (h : accepting s n x p) (h5 : x.raw ≠ x.rising) :
    State.departure n s = if isCartInput n then (s.accepted n x).detachCart (n - 24) else s.accepted n x := by
  obtain ⟨h1, h2, h3, h4⟩ := h
  have hx : s.input n = x := by simp [State.input, List.getD, h1]
  have hm : s.departs n = true := by
    simp [State.departs, hx, Input.mature, h2, Input.acceptTick, Config.ticksPerMs, h3, h4, Input.activeEdge, h5]
  rw [State.departure, if_pos hm]
  simp [State.acceptInput, hx, State.accepted, Input.accepted]

/-- A refused request answers its code alone. -/
theorem answering_refuse {c : Code} {a : Answer} {s : State} {t : TaggedRequest} (h : a = refuse c s) :
  a.state.answering t a.code a.result = s.answering t c [] := by subst h; rfl

/-- An accepted request answers OK. -/
theorem answering_accept {a : Answer} {s : State} {t : TaggedRequest} (h : a = accept s) :
  a.state.answering t a.code a.result = s.answering t .ok [] := by subst h; rfl

/-- The end of a transfer that is under way: the fault of log 22, or its effect (R6). -/
theorem execTransferEnd_eq (s : State) (t : Transfer) (hb : s.store.port.busy = some t) (hr : s.resetAsserted = false) :
    exec .transferEnd s = if s.transferInside t = false then .fault .outsideRasterStore else .next (s.transferEnds t).finish := by
    simp only [exec, execTransferEnd, hb, hr, taken]
    cases s.transferInside t <;> rfl

end Sys2Proof.Machine
end

