-- ==== Sys2Proof/Tests/Slice0.lean ====
section
/-! SUPPORT. Tests: ill-formed commands that are refused, single steps whose results the spec works out, and for each
statement with hypotheses a state that meets them. -/

open Sys2Proof Sys2Proof.Machine

set_option maxRecDepth 100000

/-! ### A small plant -/

/-- The plate of the worked sequences of chapters 8 and 9. -/
def Tests.plate : PlateId := ⟨0, 3, 0, 1⟩

def Tests.page : PageKey := ⟨1, 2, 3, 4, 0⟩

def Tests.record (v : Nat) (st : PageState) (refs : Nat) : PageRecord :=
  { key := Tests.page, version := v, width := 1, height := 1, bands := 0, chain := [v], state := st, retain := false,
    refs := refs, stream := if st = .receiving then some 7 else none }

def Tests.entry : MapEntry :=
  { id := Tests.plate, size := 0, cls := 1, affinity := .any, hold := false,
    positions := [⟨some Tests.page, false, 0, 0, 0⟩], generation := 1 }

def Tests.build (st : BuildState) (i : Option Imager) : Build :=
  { bid := 0, plate := Tests.plate, generation := 1, state := st, cause := .none_, bindings := [.bound Tests.page 1],
    imager := i, press := i.map fun _ => 2, fan := none, size := none }

def Tests.item (z : Zone) (l : Location) (w : Option Window) : Item :=
  { order := 70, plate := Tests.plate, generation := 1, bindings := [.bound Tests.page 1], press := 2, cause := .none_,
    zone := z, location := l, source := if l = .merging then some .a else none,
    work := if l = .inStation then some .working else none, window := w,
    entryTime := if l = .inStation then some 950 else none }

def Tests.window (k : WindowKind) (x : LineSensor) : Window :=
  { kind := k, sensor := x, start := 100, min := 100, max := 900, frozen := false, deadline := some 1000, elapsed := none }

/-- A running plant at 1000 ms: one plate size, one entry, one CURRENT and one RECEIVING page, logical line 0 assigned to
press 2 with the tables of section 8.5, and an attached cart 2 of 6 units and 4 acrosses. -/
def Tests.plant : State := { State.reset with
  clock := ⟨1000, 48000000⟩
  rx := { contexts := List.replicate 7 {} ++ [⟨.receiving, some (Tests.page, 2), 0, some 1000⟩], writer := none }
  store := { State.reset.store with
    directory := [Tests.record 1 .current 1, Tests.record 2 .receiving 0], freeCells := 32766, idleCells := [3, 4] }
  plates := { sizes := [some ⟨1000, 500⟩, none, none, none], map := [Tests.entry], builds := [], queue := [], pendingList := [] }
  sched := { lineHolds := List.replicate 8 false, assignment := some 2 :: List.replicate 7 none, stock := ⟨⟨0, 1⟩, ⟨0, 0⟩⟩ }
  line := { State.reset.line with state := .running }
  punch := { State.reset.punch with
    presses := State.reset.punch.presses.set 2 (some ⟨3, 1, [350, 200, 0, -150]⟩),
    patterns := State.reset.punch.patterns.set 3 (some [0, 4, 7]) }
  bend := { State.reset.bend with profiles := State.reset.bend.profiles.set 1 (some ⟨true, true⟩) }
  sorter := { State.reset.sorter with carts := State.reset.sorter.carts.set 2 ⟨some ⟨6, 4⟩, true, []⟩ } }

/-- The plant with a build. -/
def Tests.built (st : BuildState) (i : Option Imager) : State := { Tests.plant with
  plates := { Tests.plant.plates with
    builds := [Tests.build st i], queue := if st = .ready then [0] else [] } }

/-- The plant with an item. -/
def Tests.carrying (it : Item) : State := { Tests.plant with line := { Tests.plant.line with items := [it] } }

/-- The state with a change of input `n` that is accepted at the present sample: to high, an active edge, or to low. -/
def Tests.edge (n : Nat) (high : Bool) (s : State) : State :=
  { s with inputs := s.inputs.set n ⟨true, 2, !high, high, some ⟨s.clock.ref - 96000, 0⟩⟩ }

/-- Imager A in a state, holding build 0. -/
def Tests.imagerA (st : ImagerState) (f : Channel → Channel) (s : State) : State :=
  { s with chan := { s.chan with a := f { s.chan.a with seq := { s.chan.a.seq with state := st, build := some 0 } } } }

open Tests

/-- The code with which a request is answered; the lane is busy, so the reply stays in the list. -/
def Tests.code (c : Instr) (s : State) : Option Code :=
  match exec c { s with link := { s.link with lane := some ⟨128, 0, []⟩ } } with
  | .next t => t.link.replies.getLast?.map fun r => r.code
  | _ => none

/-- A value of the state after a command. -/
def Tests.after {α : Type} (c : Instr) (s : State) (f : State → α) : Option α :=
  match exec c s with
  | .next t => some (f t)
  | _ => none

/-! ### Well-formed commands -/

/-- Each check refuses an ill-formed term: a tag, a one-byte, a two-byte and a four-byte field too large, a key, a plate
id, a list too long, a list element, a fan-out value, a number of fan-out values. -/
theorem test_wf_refuses_requests :
    (∀ c ∈ ([.lineStart 256, .pageOpen 0 256 page 1 1 1 0, .pageOpen 0 0 ⟨256, 0, 0, 1, 0⟩ 1 1 1 0,
      .pageOpen 0 0 page 256 1 1 0, .pageOpen 0 0 page 1 256 1 0, .pageOpen 0 0 page 1 1 65536 0,
      .pageOpen 0 0 page 1 1 1 256, .pageAbandon 0 256, .pageRelease 0 ⟨0, 256, 0, 1, 0⟩ 1, .pageRelease 0 page 256,
      .mapLoad 0 ⟨256, 0, 0, 0⟩ 0 0 0 [], .mapLoad 0 plate 256 0 0 [], .mapLoad 0 plate 0 256 0 [],
      .mapLoad 0 plate 0 0 256 [], .mapLoad 0 plate 0 0 0 (List.replicate 256 ⟨page, 0, 0, 0⟩),
      .mapLoad 0 plate 0 0 0 [⟨⟨0, 0, 256, 1, 0⟩, 0, 0, 0⟩], .mapLoad 0 plate 0 0 0 [⟨page, 256, 0, 0⟩],
      .mapLoad 0 plate 0 0 0 [⟨page, 0, 65536, 0⟩], .mapLoad 0 plate 0 0 0 [⟨page, 0, 0, 65536⟩],
      .mapDelete 0 ⟨0, 256, 0, 0⟩, .sizeLoad 0 256 0 0, .sizeLoad 0 0 65536 0, .sizeLoad 0 0 0 65536,
      .plateHold 0 ⟨0, 0, 256, 0⟩, .plateRelease 0 ⟨0, 0, 0, 256⟩, .lineHold 0 256, .lineRelease 0 256,
      .plateCancel 0 ⟨256, 0, 0, 0⟩, .replate 0 256 plate, .replate 0 0 ⟨256, 0, 0, 0⟩] : List Instr), c.wf = false) ∧
    (∀ c ∈ ([.pressSet 0 256 0 0 [0, 0, 0, 0], .pressSet 0 0 256 0 [0, 0, 0, 0], .pressSet 0 0 0 256 [0, 0, 0, 0],
      .pressSet 0 0 0 0 [0, 0, 0], .pressSet 0 0 0 0 [32768, 0, 0, 0], .lineAssign 0 256 0, .lineAssign 0 0 256,
      .patternLoad 0 256 [], .patternLoad 0 0 (List.replicate 256 0), .patternLoad 0 0 [256], .profileLoad 0 256 0 0,
      .profileLoad 0 0 256 0, .profileLoad 0 0 0 256, .cartLayout 0 256 0 0, .cartLayout 0 0 256 0, .cartLayout 0 0 0 256,
      .windowLoad 0 256 0 0, .windowLoad 0 0 65536 0, .windowLoad 0 0 0 65536, .timingLoad 0 256 0, .timingLoad 0 0 65536,
      .sensorSet 0 256 0 0, .sensorSet 0 0 256 0, .sensorSet 0 0 0 256, .imagerSet 0 256 ⟨0, 0, 0, 0, 0, 0, 0⟩,
      .imagerSet 0 0 ⟨65536, 0, 0, 0, 0, 0, 0⟩, .imagerSet 0 0 ⟨0, 65536, 0, 0, 0, 0, 0⟩,
      .imagerSet 0 0 ⟨0, 0, 4294967296, 0, 0, 0, 0⟩, .imagerSet 0 0 ⟨0, 0, 0, 256, 0, 0, 0⟩,
      .imagerSet 0 0 ⟨0, 0, 0, 0, 256, 0, 0⟩, .imagerSet 0 0 ⟨0, 0, 0, 0, 0, 65536, 0⟩,
      .imagerSet 0 0 ⟨0, 0, 0, 0, 0, 0, 256⟩, .stockSet 0 256 0 0, .stockSet 0 0 256 0, .stockSet 0 0 0 256,
      .imagerClear 0 256, .lineResume 0 256, .reportMask 0 256, .queryPage 0 ⟨0, 0, 0, 0, 256⟩ 0, .queryPage 0 page 256,
      .queryPlate 0 ⟨0, 0, 0, 256⟩, .queryImager 0 256, .lineStop 256, .queryLine 256, .queryStore 256, .restart 256] :
      List Instr), c.wf = false) := by decide

/-- An event must name an object that exists, and an inactive edge none of the CART inputs. -/
theorem test_wf_refuses_events :
    ∀ c ∈ ([.receiveTimeout 8, .dieHomeArrival 12, .cartAttach 6, .cartDetach 6, .rawLevelChange 32 true,
      .inactiveEdgeAcceptance 32, .inactiveEdgeAcceptance 24, .inactiveEdgeAcceptance 29] : List Instr), c.wf = false := by
  decide

/-- Commands at the largest values that are well formed. -/
theorem test_wf_accepts :
    ∀ c ∈ ([.pageOpen 255 255 ⟨255, 255, 255, 255, 255⟩ 255 255 65535 255, .pressSet 255 255 255 255 [32767, -32768, 0, 0],
      .imagerSet 255 255 ⟨65535, 65535, 4294967295, 255, 255, 65535, 255⟩, .receiveTimeout 7, .dieHomeArrival 11,
      .cartAttach 5, .rawLevelChange 31 false, .inactiveEdgeAcceptance 30] : List Instr), c.wf = true := by decide

/-- The table gives no row any bits (log 12). -/
theorem test_no_word_spells_a_command : Sys2Proof.decodeTableWord 32 0x12345678 = none := rfl

/-! ### Frames (R186) -/

/-- The check value of CRC-32 for the nine digits, least significant byte first: CBF43926 (R186). -/
theorem test_frame_check : checkBytes [0x31, 0x32, 0x33, 0x34, 0x35, 0x36, 0x37, 0x38, 0x39] = [0x26, 0x39, 0xF4, 0xCB] := by
  decide

/-- TIMING LOAD of entry 4 with 5000 ms, tag 9 (Tables 10.1 and 10.7), joins the request queue. -/
theorem test_request_frame :
    (requestFrame ⟨9, .timingLoad 4 5000⟩).take 8 = [34, 9, 0, 0, 3, 4, 0x13, 0x88] ∧
    after (.downstreamFrame (requestFrame ⟨9, .timingLoad 4 5000⟩)) State.reset (fun t => t.link.requests) =
      some [⟨9, .timingLoad 4 5000⟩] := by decide

/-- A frame of 8 bytes is a BAD_FRAME (R188), and one with a wrong check a BAD_CHECK; a band for an idle context is an
orphan (Table 1.3). The report sent is that of the LINK condition: type 21, level 1. -/
theorem test_bad_frames :
    after (.downstreamFrame [39, 1, 0, 0, 0, 0, 0, 0]) State.reset (fun t => t.link.lane.map fun f => f.payload.take 8) =
      some (some [21, 1, 0, 0, 0, 0, 0, 0]) ∧
    after (.downstreamFrame [39, 1, 0, 0, 0, 0, 0, 0, 0]) State.reset (fun t => (t.link.requests, t.link.lane.isSome)) =
      some ([], true) ∧
    after (.downstreamFrame (frameBytes 1 0 [0, 0])) State.reset (fun t => t.link.lane.map fun f => f.payload.take 2) =
      some (some [21, 1]) := by decide

/-! ### Worked values of the spec -/

/-- Table 9.1. -/
theorem test_slots :
    Layout.slotOf ⟨12, 4⟩ ⟨0, 5, 1, 2⟩ = some 46 ∧ Layout.slotOf ⟨12, 4⟩ ⟨3, 11, 1, 3⟩ = some 95 ∧
    Layout.slotOf ⟨6, 4⟩ ⟨0, 6, 0, 0⟩ = none ∧ Layout.slotOf ⟨8, 2⟩ ⟨1, 3, 0, 1⟩ = some 13 ∧
    Layout.slotOf ⟨8, 2⟩ ⟨1, 3, 0, 2⟩ = none := by decide

/-- Table 4.2. -/
theorem test_line_deltas :
    [lineDelta 64 2000, lineDelta 256 2000, lineDelta 256 (-2000), lineDelta 1920 (-260), lineDelta 12800 40,
      lineDelta 25600 350, lineDelta 25600 (-1200), lineDelta 32768 2000, lineDelta 32768 (-2000)] =
    [0, 1, -1, 0, 1, 9, -31, 66, -66] := by decide

/-- The worked case of section 6.3: a period of 2,883,100 ticks is 288 above the window. -/
theorem test_period_window :
    expectedPeriod 36000 39 = 2880000 ∧ toleranceHalf 2880000 4 = 2812 ∧
    judge Settings.reset false false 36000 2882812 = none ∧ judge Settings.reset false false 36000 2883100 = some .period := by
  decide

/-- The phase cycle 00, 10, 11, 01 counts forward at ×4; a step back sets the reverse flag (R106). -/
theorem test_encoder :
    after (.encoderTransition .a ⟨true, false⟩) State.reset (fun t => (t.chan.a.drum.position, t.chan.a.drum.reverse)) =
      some (1, false) ∧
    after (.encoderTransition .b ⟨false, true⟩) State.reset (fun t => (t.chan.b.drum.position, t.chan.b.drum.reverse)) =
      some (16777215, true) := by decide

/-! ### Requests at the ends of their ranges -/

/-- Codes of requests on both sides of a bound (R9, R16, R17, R27, R30, R31, R52, R54, R59 to R61, R63). -/
theorem test_codes_pages_and_plates :
    (([.pageOpen 1 0 ⟨1, 2, 3, 5, 0⟩ 255 64 512 1, .pageOpen 1 0 ⟨1, 2, 3, 5, 0⟩ 255 65 512 1, .pageOpen 1 7 page 3 1 1 0,
      .pageOpen 1 0 page 2 1 1 0, .pageAbandon 1 8, .pageAbandon 1 6, .pageAbandon 1 7, .pageRelease 1 page 1,
      .pageRelease 1 page 3, .sizeLoad 1 3 32 256, .sizeLoad 1 3 31 256, .sizeLoad 1 4 32 256,
      .mapLoad 1 plate 0 3 2 [⟨page, 1, 499, 999⟩], .mapLoad 1 plate 0 3 2 [⟨page, 1, 500, 999⟩],
      .mapLoad 1 plate 1 3 2 [⟨page, 1, 0, 0⟩], .mapDelete 1 plate, .mapDelete 1 ⟨0, 3, 0, 2⟩, .plateHold 1 plate,
      .plateRelease 1 ⟨8, 0, 0, 0⟩, .lineHold 1 7, .lineRelease 1 8, .plateCancel 1 plate, .replate 1 1 ⟨7, 99, 99, 99⟩,
      .replate 1 2 plate, .lineAssign 1 7 255, .lineAssign 1 7 3, .lineAssign 1 7 6, .stockSet 1 1 3 255,
      .stockSet 1 2 3 255] : List Instr).map fun c => code c plant) =
    [.ok, .range, .busy, .stale, .range, .notFound, .ok, .ok, .notFound, .ok, .range, .range, .ok, .range, .range, .ok,
      .notFound, .ok, .range, .ok, .range, .notFound, .ok, .range, .ok, .notFound, .range, .ok, .range].map some := by
  decide

/-- Codes of the other requests (R100, R113, R127, R134, R150, R151, R157 to R159, R173, R192 to R194, R198). -/
theorem test_codes_line_and_tables :
    (([.pressSet 1 5 3 1 [2000, -2000, 0, 0], .pressSet 1 5 3 1 [2001, 0, 0, 0], .pressSet 1 5 4 1 [0, 0, 0, 0],
      .patternLoad 1 15 [0, 1, 2, 3, 4, 5, 6, 11], .patternLoad 1 15 [3, 3], .patternLoad 1 15 [], .profileLoad 1 7 0 0,
      .profileLoad 1 7 2 0, .cartLayout 1 5 12 4, .cartLayout 1 5 12 5, .windowLoad 1 0 65535 65535, .windowLoad 1 0 2 1,
      .windowLoad 1 8 2 1, .windowLoad 1 9 1 1, .timingLoad 1 0 60000, .timingLoad 1 0 60001, .timingLoad 1 1 65535,
      .sensorSet 1 31 1 15, .sensorSet 1 31 2 15, .imagerSet 1 0 ⟨39, 36000, 36000, 4, 4, 2000, 3⟩,
      .imagerSet 1 0 ⟨39, 36000, 36000, 3, 4, 2000, 3⟩, .imagerSet 1 0 ⟨4095, 65535, 1, 1, 1, 0, 1⟩, .imagerClear 1 0,
      .lineStart 1, .lineStop 1, .lineResume 1 0, .lineResume 1 2, .reportMask 1 4, .reportMask 1 5] : List Instr).map
      fun c => code c plant) =
    [.ok, .range, .notFound, .ok, .range, .range, .ok, .range, .ok, .range, .ok, .range, .ok, .range, .ok, .range, .ok, .ok,
      .range, .ok, .range, .range, .badState, .badState, .ok, .badState, .range, .ok, .range].map some := by decide

/-- Queries and RESTART (R194, R198). -/
theorem test_codes_queries :
    (([.queryPage 1 page 0, .queryPage 1 page 9, .queryPage 1 ⟨16, 0, 0, 1, 0⟩ 0, .queryPlate 1 plate,
      .queryPlate 1 ⟨0, 3, 1, 1⟩, .queryImager 1 1, .queryImager 1 2, .queryLine 1, .queryStore 1] : List Instr).map
      fun c => code c plant) = [.ok, .notFound, .range, .ok, .notFound, .ok, .range, .ok, .ok].map some := by decide

/-! ### Single steps -/

/-- A build that is READY and eligible goes to imager A, bound to press 2 with the fan-out of across 1, and takes the last
plate of the stock (R66 to R68, section 8.5). -/
theorem test_dispatch :
    after .dispatch (built .ready none) (fun t => (t.chan.a.seq.state, t.chan.a.out.load, t.plates.queue)) =
      some (.loading, true, []) ∧
    after .dispatch (built .ready none) (fun t => (t.plates.builds.map fun b => (b.press, b.fan), t.sched.stock.a.count)) =
      some ([(some 2, some 200)], 0) := by decide

/-- A clamp arrival drives the drum (R114, R116). -/
theorem test_clamp :
    after (.clampArrival .a) (edge 0 true (imagerA .loading id (built .assigned (some .a))))
      (fun t => (t.chan.a.seq.state, t.chan.a.out.drumRun, t.chan.a.seq.spinDeadline)) =
      some (.spinup, true, some 11000) := by decide

/-- The first index after the start of the drum is invalid, reason FIRST (R111). -/
theorem test_index :
    after (.index .a) State.reset (fun t => (t.chan.a.drum.judgment, t.chan.a.drum.first)) = some (some .first, false) := by
  decide

/-- A window expired in RUNNING halts the line (R146, R147); in STOPPED a phantom halts nothing (R141). -/
theorem test_halts :
    after (.windowExpiry .lg) (carrying (item .link .conveying (some (window .linkGate .lg))))
      (fun t => (t.line.state, t.line.halt.map fun h => (h.cause, h.sensor))) = some (.halted, some (.missing, some 6)) ∧
    after (.lineSensorArrival .og) (edge 8 true { plant with line := { plant.line with state := .stopped } })
      (fun t => (t.line.state, t.line.halt)) = some (.stopped, none) := by decide

/-- The gate opens for the item at it, and a free station releases its item (R142, R144). -/
theorem test_gate_and_release :
    after (.gateOpen .punch) (carrying (item .transfer .atGate none))
      (fun t => (t.line.items.map fun it => (it.zone, it.location), t.line.out.gatePunch)) =
      some ([(.punch, .entering)], true) ∧
    after (.itemRelease .punch) (carrying { item .punch .inStation none with work := some .done })
      (fun t => t.line.items.map fun it => (it.zone, it.location, it.window.map fun w => w.kind)) =
      some [(.link, .conveying, some .linkGate)] := by decide

/-- The grant of section 7.9: spacing deadline 99000 for a grant at 95000 (R138). -/
theorem test_grant :
    after .mergeGrant { imagerA .exitWait id (built .exiting (some .a)) with
      clock := ⟨95000, 0⟩
      line := { plant.line with merge := ⟨[⟨.a, 1⟩], some 18500, some 22500, true⟩ } }
      (fun t => (t.line.merge.deadline, t.line.items.map fun it => it.window.map fun w => w.deadline, t.chan.a.seq.state)) =
      some (some 99000, [some (some 98000)], .unloading) := by decide

/-- An item at a place of the line, current unless a cause is given. -/
def Tests.placed (order unit : Nat) (z : Zone) (l : Location) (w : Option Window) (work : Option Work) : Item :=
  { item z l w with order := order, plate := ⟨0, unit, 0, 0⟩, work := work, entryTime := none }

/-- Section 7.9 at 95000: LINE RESUME with REMOVE deletes item 52; the frozen windows of items 51 and 54 restart, item 53 is
released into LINK with its LINK_GATE window, and imager A is granted with item 55, all in the step of the request. -/
theorem test_jam_resumed :
    let frozen : WindowKind → LineSensor → Nat → Option Window := fun k x t =>
      some { kind := k, sensor := x, start := t, min := 400, max := 5000, frozen := true, deadline := none, elapsed := some 3000 };
    after (.lineResume 1 1) { imagerA .exitWait id (built .exiting (some .a)) with
      clock := ⟨95000, 0⟩
      link := { plant.link with lane := some ⟨128, 0, []⟩ }
      line := { plant.line with
        state := .halted, counter := 55, halt := some ⟨.missing, some ⟨52, ⟨0, 2, 0, 0⟩, 1, .link, .conveying⟩, some 6, none, 21500, 0, none⟩,
        items := [placed 51 1 .outfeed .conveying (frozen .outfeedGate .og 19500) none,
          placed 52 2 .link .conveying (frozen .linkGate .lg 16500) none, placed 53 5 .punch .inStation none (some .done),
          placed 54 4 .transfer .conveying (frozen .transferGate .tg 19000) none],
        merge := ⟨[⟨.a, 1⟩], some 18500, some 22500, true⟩ } }
      (fun t => (t.line.items.map fun it => (it.order, it.zone, it.window.bind fun w => w.deadline), t.line.merge.deadline,
        t.link.replies.map fun r => r.result)) =
      some ([(51, .outfeed, some 100000), (53, .link, some 100000), (54, .transfer, some 103000), (55, .transfer, some 98000)],
        some 99000, [[0, 52, 0, 2, 0, 0, 1]]) := by decide

/-- Item 71 of section 8.5: line 0 is now assigned to press 5, so the punch passes it over REDIRECTED. -/
theorem test_punch_redirects :
    after .punchEntry { carrying (item .punch .inStation none) with
      sched := { plant.sched with assignment := some 5 :: List.replicate 7 none } }
      (fun t => (t.line.items.map fun it => (it.cause, it.work), t.punch.state)) =
      some ([(.redirected, some .done)], .idle) := by decide

/-- The first die of pattern 3 is die 0; the die deadline is the die timeout later (R161, R162). -/
theorem test_punch_orders :
    after .punchEntry (carrying (item .punch .inStation none)) (fun t => (t.punch.die, t.punch.deadline, t.punch.dies.head?)) =
      some (some 0, some 2000, some true) ∧
    after (.dieHomeArrival 9) (edge 20 true plant) (fun t => (t.punch.strays, t.punch.state)) = some (1, .idle) := by decide

/-- The lead bend comes first (R167, R168). -/
theorem test_bend_orders :
    after .bendEntry (carrying (item .bend .inStation none)) (fun t => (t.bend.bend, t.bend.outLead, t.bend.deadline)) =
      some (some .lead, true, some 5000) := by decide

/-- Plate (0, 3, 0, 1) in a cart of 6 units and 4 acrosses: (3 × 2 + 0) × 4 + 1 = 25 (R174, R177). -/
theorem test_sort_decides :
    after .sortEntry (carrying (item .sort .inStation none)) (fun t => (t.sorter.destination, t.sorter.exitCode)) =
      some (some (.cart 2 25), 2) ∧
    after .sortEntry { carrying (item .sort .inStation none) with
      sorter := { plant.sorter with carts := plant.sorter.carts.set 2 ⟨some ⟨6, 4⟩, true, [25]⟩, remakes := 12 } }
      (fun t => (t.sorter.state, t.line.state, t.line.halt.map fun h => h.cause)) =
      some (.blocked, .halted, some .exitFull) := by decide

/-- An item that this station retired REDIRECTED and that a full REJECT blocked is taken up again after the emptying: the
field redirected here is cleared, but the report at its deposit still says yes (R180, R183). -/
theorem test_redirected_here :
    let it : Item := { item .sort .inStation none with cause := .redirected }
    after (.lineResume 1 0) { carrying it with
      line := { plant.line with state := .halted, items := [it], halt := some ⟨.exitFull, none, none, some .reject, 900, 0, none⟩ }
      sorter := { plant.sorter with
        state := .blocked, item := some 70, destination := some .reject, redirected := true, retiredHere := true } }
      (fun t => (t.sorter.state, t.sorter.redirected, t.sorter.retiredHere)) = some (.depositing, false, true) ∧
    after (.lineSensorArrival .sd) (edge 10 true { carrying { it with window := some (window .deposit .sd) } with
      link := { plant.link with lane := some ⟨128, 0, []⟩ }
      sorter := { plant.sorter with state := .depositing, item := some 70, destination := some .reject, retiredHere := true } })
      (fun t => (t.reports.events.map fun e => e.body, t.sorter.retiredHere)) =
      some ([.plateRejected ⟨plate, 1, 70, 2, .redirected, true, 1, 1000⟩], false) := by decide

/-- A detach empties the cart, an attach keeps its occupancy (R175); an emptied arrival clears the count (R176). -/
theorem test_carts :
    after (.cartDetach 2) (edge 26 false { plant with
      sorter := { plant.sorter with carts := plant.sorter.carts.set 2 ⟨some ⟨6, 4⟩, true, [25]⟩ } })
      (fun t => t.sorter.carts.getD 2 Cart.reset) = some ⟨some ⟨6, 4⟩, false, []⟩ ∧
    after (.cartAttach 2) (edge 26 true { plant with
      sorter := { plant.sorter with carts := plant.sorter.carts.set 2 ⟨some ⟨6, 4⟩, false, [25]⟩ } })
      (fun t => t.sorter.carts.getD 2 Cart.reset) = some ⟨some ⟨6, 4⟩, true, [25]⟩ ∧
    after (.exitEmptied .reject) (edge 30 true { plant with sorter := { plant.sorter with rejects := 40 } })
      (fun t => t.sorter.rejects) = some 0 := by decide

/-- The time wraps from 4,294,967,295 to 0 (R94); a raw level that differs begins a pending change (R97). -/
theorem test_time_and_sensors :
    after .lineTimebaseTick { State.reset with clock := ⟨4294967295, 47999⟩ } (fun t => t.clock) = some ⟨0, 48000⟩ ∧
    after (.rawLevelChange 5 true) plant (fun t => (t.inputs.getD 5 (Input.reset false)).change) =
      some (some ⟨48000000, 48000000⟩) := by decide

/-- A key completed with an older CURRENT record: the new record replaces it in the answer (R19, R20, R23). -/
theorem test_notice :
    after .completionNotice { plant with store := { plant.store with
      directory := [{ Tests.record 2 .current 0 with retain := true }], notices := [⟨page, 2, 1, 0⟩] } }
      (fun t => (t.plates.builds.map fun b => b.bindings, t.store.notices, t.store.directory.map fun r => r.refs)) =
      some ([[.bound page 2]], [], [1]) := by decide

/-- Each event gets its own dispatch pass (R66, R67): the work of a notice that makes a build READY sends it to imager A, and
imager B, freed by its exit arrival while A is in FAULT, takes the build that A would have taken. -/
theorem test_own_pass :
    after .completionNotice { plant with store := { plant.store with
      directory := [Tests.record 2 .current 0], notices := [⟨page, 2, 1, 0⟩] } }
      (fun t => (t.chan.a.seq.state, t.plates.queue, t.passOwed)) = some (.loading, [], false) ∧
    (let it : Item := { item .transfer .merging (some (window .exit .exitB)) with source := some .b, plate := ⟨0, 4, 0, 1⟩ };
      after (.lineSensorArrival .exitB) (edge 3 true { imagerA .fault id (built .ready none) with
        line := { plant.line with items := [it] }
        sched := { plant.sched with stock := ⟨⟨0, 1⟩, ⟨0, 1⟩⟩ }
        chan := ⟨{ plant.chan.a with seq := { plant.chan.a.seq with state := .fault } },
          { plant.chan.b with seq := { plant.chan.b.seq with state := .unloading } }⟩ })
        (fun t => (t.chan.a.seq.state, t.chan.b.seq.state, t.chan.b.seq.build)) = some (.fault, .loading, some 0)) := by decide

/-- Both blocking reasons, then the state of each imager whose reason is NONE (R71): the build is eligible for A, and B has no
plates; a fan-out that is not bound, whose range does not fill its 2 bytes, is all ones (Table 10.5). -/
theorem test_query_bytes :
    (built .ready none).blockBytes (build .ready none) = [255, 5, 0, 255] ∧
    (built .ready none).buildBytes (build .ready none) =
      [1, 1, 255, 5, 0, 255, 255, 255, 255, 255, 255, 255, 255, 255] ∧
    receiveLeft 900 (some 1000) = [0, 100] ∧ receiveLeft 900 none = [255, 255] ∧ optHaltItem none = [0] ++ List.replicate 6 255 ++ [0, 255, 255, 255] := by
  decide

/-- RESET_N releases the outputs; the release of reset finds cart 5 attached (R99, R104). -/
theorem test_reset :
    after .resetAsserted (imagerA .spinup (fun c => { c with out := { c.out with drumRun := true } }) plant)
      (fun t => (t.chan.a.out.drumRun, t.sorter.exitCode)) = some (false, 6) ∧
    after (.powerOnReset 0x20000000 ⟨false, false⟩ ⟨false, false⟩) plant (fun t => t.sorter.carts.map fun c => c.present) =
      some [false, false, false, false, false, true] := by decide

/-! ### The hypotheses of each statement, met together

One theorem for each statement that has hypotheses, clause by clause, at the ends of the ranges. -/

/-- The request queue and reply list of a state. -/
def Tests.waiting (rs : List TaggedRequest) (replies : Nat) : State := { plant with
  link := { plant.link with requests := rs, replies := List.replicate replies ⟨0, 39, .ok, []⟩ } }

theorem witness_StepTakesFrontCommand :
    ({ plant with pending := [.restart 1, .mergeGrant] } : State).pending = [.restart 1, .mergeGrant] := rfl

theorem witness_IdleStepTakesDueEventOrTick :
    (State.reset.pending = [] ∧ { State.reset with resetAsserted := true }.resetAsserted = true) ∧
    (State.reset.resetAsserted = false ∧ State.reset.due = []) ∧
    (plant.resetAsserted = false ∧ (edge 8 true plant).due = [.lineSensorArrival .og, .receiveTimeout 7]) := by
  decide

theorem witness_PowerOnReset : State.reset.pending = [] ∧ State.reset.freeCount = 0 := ⟨rfl, rfl⟩

theorem witness_ResetAsserted :
    { plant with resetAsserted := true }.resetAsserted = true ∧ Instr.mergeGrant ≠ .resetAsserted ∧
    ∀ l p q, Instr.mergeGrant ≠ .powerOnReset l p q := ⟨rfl, by decide, fun _ _ _ h => nomatch h⟩

theorem witness_StepKeepsMemoryCanonical :
    MemoryCanonical State.reset ∧ ∃ t, step State.reset = .next t := ⟨by decide, _, rfl⟩

/-- A store whose only record has received one band of two, in cell 0, on context 7. -/
def Tests.fed : State := { plant with
  rx := { contexts := List.replicate 7 {} ++ [⟨.receiving, some (page, 2), 1, some 1000⟩], writer := none }
  store := { plant.store with
    directory := [{ record 2 .receiving 0 with height := 2, bands := 1, chain := [0] }], freeCells := 32766,
    idleCells := (List.range 32767).map Nat.succ } }

theorem witness_StepKeepsCellPoolBalanced :
    (CellPoolBalanced plant ∧ ∃ t, step plant = .next t) ∧
    (CellPoolBalanced fed ∧ CellsAccounted fed ∧ ∃ t, step fed = .next t) ∧
    (BuildsSound (imagerA .exposing id (built .exposing (some .a))) ∧ BuildsSound (built .ready none) ∧
      BuildsSound (carrying (item .link .atGate none)) ∧
      ∃ t, step (imagerA .exposing id (built .exposing (some .a))) = .next t) := by
  refine ⟨⟨by decide, _, rfl⟩, ⟨by decide, ⟨?_, by decide, by decide, by decide⟩, _, rfl⟩, by decide, by decide, by decide, _, rfl⟩
  rw [show (32768 : Nat) = 32767 + 1 from rfl, List.range_succ_eq_map]
  exact List.perm_append_comm

theorem witness_StepKeepsLinkBounds :
    LinkBounded (waiting (List.replicate 8 ⟨1, .lineStart⟩) 16) ∧
    ∃ t, step (waiting (List.replicate 8 ⟨1, .lineStart⟩) 16) = .next t := ⟨by decide, _, rfl⟩

theorem witness_StepKeepsExitBounds :
    let s : State := { plant with sorter := { plant.sorter with
      rejects := 39, remakes := 12, state := .depositing, destination := some .reject } }
    (ExitsBounded s ∧ ∃ t, step s = .next t) ∧
    (let u := carrying (item .sort .inStation none);
      (u.line.items.map fun it => it.order).Nodup ∧ ZonesBounded u ∧ ∃ t, step u = .next t) :=
  ⟨⟨by decide, _, rfl⟩, by decide, by decide, _, rfl⟩

theorem witness_RequestWaitsForItsTurn :
    (Instr.lineStop 1).request? = some ⟨1, .lineStop⟩ ∧
    ((waiting [⟨1, .lineStart⟩] 0).resetAsserted = false ∧
      (waiting [⟨1, .lineStart⟩] 0).link.requests = ⟨1, .lineStart⟩ :: [] ∧
      (⟨1, .lineStart⟩ : TaggedRequest) ≠ ⟨1, .lineStop⟩) ∧
    ((waiting [⟨1, .lineStop⟩] 16).link.requests = [⟨1, .lineStop⟩] ∧ 16 ≤ (waiting [⟨1, .lineStop⟩] 16).link.replies.length) ∧
    ((waiting [] 16).link.requests = [] ∧ 16 ≤ (waiting [] 16).link.replies.length) := by decide

theorem witness_RequestFrameJoinsQueue :
    (Request.patternLoad 255 [0, 255]).wf = true ∧ 255 < 256 ∧ plant.resetAsserted = false ∧
    (waiting (List.replicate 7 ⟨1, .lineStart⟩) 0).link.requests.length < 8 := by decide

theorem witness_FrameDiscardedOrAnsweredAtOnce :
    State.reset.resetAsserted = false ∧
    ((waiting [] 15).link.requests = [] ∧ (waiting [] 15).link.replies.length < 16) ∧
    ((waiting [⟨1, .lineStart⟩] 15).link.requests ≠ [] ∧ ¬ (waiting [⟨1, .lineStart⟩] 15).link.replies.length < 15) := by decide

/-- Context 7 before the last band of a page of three bands, or after it. -/
def Tests.banded (st : ContextState) : State := { plant with
  rx := { contexts := List.replicate 7 {} ++ [⟨st, some (page, 2), 2, some 1000⟩], writer := none }
  store := { plant.store with directory := [{ record 2 .receiving 0 with height := 3, bands := 2, chain := [1, 2] }] } }

/-- The last band of a page of three bands, of the right length, for context 7; and of each other branch a state: the overrun,
the held frame, the two orphans, the duplicate, the band lost in RECEIVING and in COMPLETING, the wrong length; and a frame
that passes on from the holding place. -/
theorem witness_BandFrameArrives :
    let data := List.replicate 2048 (0 : Byte)
    let s := banded .receiving
    let ctx : Nat → Context := fun tag => s.rx.contexts.getD tag ⟨.idle, none, 0, none⟩
    let f : BandFrame := ⟨7, be 2 2 ++ data⟩
    let held : State := { s with link := { s.link with holding := some f } }
    let busy : State := { s with rx := { s.rx with writer := some ⟨page, 1, 0, 9, 1, 0, []⟩ } };
    (7 < 256 ∧ 2 < 65536 ∧ data.length < 16777214 ∧ s.resetAsserted = false ∧ s.link.holding = none ∧ s.rx.writer = none) ∧
    ((ctx 7).record = some (page, 2) ∧ (ctx 7).state = .receiving ∧ (ctx 7).nextBand = 2 ∧
      (s.store.find page 2).map (fun r => (r.height, r.width)) = some (3, 1) ∧ 2 + 1 = 3 ∧ data.length = 1 * 2048) ∧
    (held.link.holding = some f ∧ held.rx.writer = none) ∧ (busy.link.holding = none ∧ busy.rx.writer ≠ none) ∧
    ((ctx 255).record = none ∧ ((banded .idle).rx.contexts.getD 7 ⟨.idle, none, 0, none⟩).state = .idle) ∧
    (1 < (ctx 7).nextBand ∧ (ctx 7).nextBand < 3) ∧
    ((banded .completing).rx.contexts.getD 7 ⟨.idle, none, 0, none⟩).state = .completing ∧
    (List.replicate 2047 (0 : Byte)).length ≠ 1 * 2048 := by decide

/-- Reports and a reply that wait with the mask at 2. -/
def Tests.up (events : List EventReport) (line : Option Condition) (replies : List Reply) : State := { plant with
  link := { plant.link with replies := replies, lane := some ⟨1, 2, []⟩ },
  reports := { plant.reports with events := events, slots := { plant.reports.slots with line := line }, seq := 255, mask := 2 } }

def Tests.rejected (t : Nat) : EventReport := ⟨.plateRejected ⟨plate, 1, 2, 3, .none_, true, 5, 6⟩, t⟩

def Tests.droppedReport (t : Nat) : EventReport := ⟨.pageDropped ⟨page, 1, 2, .gap, 3, 4, none, 0⟩, t⟩

def Tests.lineCondition : Condition := ⟨.line ⟨⟨.stop, none, none, none, 3, 0, none⟩, .halted⟩, 3, 4, 5⟩

theorem witness_UpstreamFrameEnds :
    ((up [] none []).resetAsserted = false ∧ (up [] none []).passOwed = false ∧ (up [] none [⟨1, 2, .ok, [3]⟩]).link.replies = ⟨1, 2, .ok, [3]⟩ :: []) ∧
    ((up [] none []).link.replies = [] ∧ (up [] none []).reports.choose 1000 0 = none) ∧
    ((up [droppedReport 7, rejected 5] none []).reports.choose 1000 0 = some (.event 1, 0) ∧
      (up [droppedReport 7, rejected 5] none []).reports.events[1]? = some (rejected 5)) ∧
    ((up [rejected 5] (some lineCondition) []).reports.choose 1000 0 = some (.slot .line, 0) ∧
      (up [rejected 5] (some lineCondition) []).reports.slots.get .line = some lineCondition) ∧
    ((up (List.replicate 63 (rejected 5)) none []).reports.events.length < 64 ∧
      64 ≤ (up (List.replicate 64 (rejected 5)) none []).reports.events.length) ∧
    Source.link ≠ .line := by decide

/-! #### Pages and the store -/

theorem witness_PageOpenRefusedOrApplied : Ready plant ⟨255, .pageOpen 7 page 255 64 512 1⟩ := by decide

/-- Contexts 6 and 7 at the two ends: IDLE, and RECEIVING. -/
theorem witness_PageAbandonAndRelease :
    Ready plant ⟨1, .pageAbandon 7⟩ ∧ 8 ≤ 8 ∧ (plant.rx.contexts.getD 6 {}).state = .idle ∧
    ((plant.rx.contexts.getD 7 {}).state ≠ .idle ∧ (plant.rx.contexts.getD 7 {}).record = some (page, 2) ∧
      plant.store.find page 2 = some (record 2 .receiving 0)) ∧
    (Ready plant ⟨1, .pageRelease page 2⟩ ∧ ¬ (256 ≤ 255) ∧ keyOk page = true ∧ plant.store.find page 255 = none ∧
      plant.store.find page 1 = some (record 1 .current 1)) ∧
    ((plant.store.directory.Pairwise fun q r => ¬ (q.key = r.key ∧ q.version = r.version)) ∧
      (∀ r ∈ plant.store.directory, ¬ (r.key = page ∧ r.version = 3)) ∧ record 1 .current 1 ∈ plant.store.directory ∧
      (record 1 .current 1).refs ≤ 1 ∧ (record 1 .current 1).retain = false ∧ plant.store.notices = [] ∧
      ¬ (record 1 .current 2).refs ≤ 1) := by decide

theorem witness_ReceiveTimeoutDropsRecord :
    plant.resetAsserted = false ∧ (plant.rx.contexts.getD 7 {}).state = .receiving ∧
    (plant.rx.contexts.getD 7 {}).record = some (page, 2) ∧ (plant.rx.contexts.getD 7 {}).deadline = some 1000 ∧
    reached plant.clock.time 1000 ∧ plant.store.find page 2 = some (record 2 .receiving 0) := by decide

/-- The writer at a line of a cell, with its context in a state. -/
def Tests.writing (cell line : Nat) (c : ContextState) : State := { plant with
  rx := { contexts := List.replicate 7 {} ++ [⟨c, some (page, 2), 1, none⟩], writer := some ⟨page, 2, 7, cell, 64, line, []⟩ },
  store := { plant.store with port := { plant.store.port with busy := some ⟨.receive, false⟩ } } }

theorem witness_LineTransferEnds :
    (MemoryCanonical (writing 32768 0 .receiving) ∧ (writing 32768 0 .receiving).resetAsserted = false ∧
      (writing 32768 0 .receiving).store.port.busy = some ⟨.receive, false⟩ ∧
      (writing 32768 0 .receiving).rx.writer = some ⟨page, 2, 7, 32768, 64, 0, []⟩ ∧
      ¬ (32768 < 32768 ∧ 0 * (64 * 32) + 64 * 32 ≤ 131072)) ∧
    (MemoryCanonical (writing 32767 62 .receiving) ∧ 32767 < 32768 ∧ 62 * (64 * 32) + 64 * 32 ≤ 131072 ∧ 62 + 1 ≠ 64) ∧
    (63 * (64 * 32) + 64 * 32 ≤ 131072 ∧ 63 + 1 = 64 ∧
      ¬ (((writing 0 63 .receiving).rx.contexts.getD 7 {}).state = .completing)) ∧
    (((writing 0 63 .completing).rx.contexts.getD 7 {}).state = .completing ∧
      ((writing 0 63 .completing).rx.contexts.getD 7 {}).record = some (page, 2)) := by decide

/-- Each order of the last grant and the waiting requesters. -/
theorem witness_StorePortGrantsInCyclicOrder :
    let p : Port := ⟨none, true, true, true, .b⟩;
    (({ p with busy := some ⟨.a, true⟩ } : Port).busy = some ⟨.a, true⟩) ∧
    (State.reset.store.port.busy = none ∧ State.reset.store.port.waitReceive = false) ∧
    (p.busy = none ∧ p.waitReceive = true ∧ (p.last = .b ∨ (p.last = .a ∧ p.waitB = false))) ∧
    (({ p with last := .receive } : Port).waitA = true ∧ ({ p with last := .receive } : Port).last = .receive) ∧
    (({ p with last := .a } : Port).waitB = true ∧ ({ p with last := .a } : Port).last = .a) := by decide

/-- A plate of 32 swaths with one page, and imager A filling buffer 1 at a place of its second swath. -/
def Tests.job : Job :=
  { l := 1000, x := 500, fan := 350, n := 32,
    positions := [some
      { width := 1, chain := [5], rotated := false, x0 := 3, y0 := 40, w := 256, h := 64, t := 64, v := 256, clipped := false }] }

def Tests.seg (j : Job) (place : Nat) (who : Requester) (discarded : Bool) : State := { plant with
  store := { plant.store with port := ⟨some ⟨who, discarded⟩, true, false, true, .a⟩ },
  chan := { plant.chan with a := { plant.chan.a with composer :=
    { job := some j, nextFill := 2, nextEmit := 0, fill := some ⟨1, 1, place⟩, buf0 := ⟨.free, 0, []⟩,
      buf1 := ⟨.filling, 1, List.replicate 32 1⟩ } } } }

theorem witness_SegmentTransferEnds :
    ((seg job 0 .b true).resetAsserted = false ∧ (seg job 0 .b true).store.port.busy = some ⟨.b, true⟩) ∧
    (let s := seg { job with positions := job.positions.map fun p => p.map fun q => { q with chain := [32768] } } 32 .a false;
      s.store.port.busy = some ⟨.a, false⟩ ∧ s.chan.a.composer.transferInside = false) ∧
    (∀ place ∈ [32, 124], (seg job place .a false).chan.a.composer.job = some job ∧
      (seg job place .a false).chan.a.composer.fill = some ⟨1, 1, place⟩ ∧ (job.transferAt 1 place).isSome ∧
      (seg job place .a false).chan.a.composer.transferInside = true) ∧
    job.nextPlace 1 33 = some 36 ∧ job.nextPlace 1 125 = none ∧
    (let c : Composer := { job := some job, nextFill := 31, nextEmit := 30, fill := none, buf0 := ⟨.free, 0, []⟩, buf1 := ⟨.free, 0, []⟩ };
      c.fill = none ∧ c.nextFill < job.n ∧ c.buf0.state = .free ∧
      ({ c with buf0 := ⟨.emitting, 30, []⟩ } : Composer).buf0.state ≠ .free ∧ job.n ≤ 32) := by decide

/-- Version 3 of the page RECEIVING on context 3, with or without a CURRENT version 1. -/
def Tests.pages (refs : Nat) (ns : List Notice) (old : Bool) : State := { plant with
  store := { plant.store with
    directory := (if old then [record 1 .current refs] else []) ++
      [record 2 .receiving 0, { record 3 .receiving 0 with stream := some 3 }],
    notices := ns } }

theorem witness_PageCompletes :
    (DirectoryDistinct (pages 0 [] false) ∧
      (pages 0 [] false).store.find page 3 = some { record 3 .receiving 0 with stream := some 3 } ∧
      (pages 0 [] false).store.current page = none) ∧
    (DirectoryDistinct (pages 1 [⟨page, 1, 0, 0⟩] true) ∧
      (pages 1 [⟨page, 1, 0, 0⟩] true).store.current page = some (record 1 .current 1)) := by decide

/-- Version 4 of the page CURRENT with its completion notice outstanding. -/
def Tests.noticed (builds : List Build) (items : List Item) : State := { plant with
  store := { plant.store with
    directory := [{ record 4 .current 0 with retain := true }, record 1 .superseded 1], notices := [⟨page, 4, 1, 2⟩] },
  plates := { plant.plates with builds := builds, queue := builds.map fun b => b.bid },
  line := { plant.line with items := items } }

/-- The worked notice finds its record bound again, or, the record gone from the directory, none. -/
theorem witness_CompletionNoticeWorked :
    (plant.resetAsserted = false ∧ plant.store.notices = []) ∧
    ((noticed [build .ready none] []).store.notices = ⟨page, 4, 1, 2⟩ :: [] ∧
      ((noticed [build .ready none] []).workEntry page 4 plate).store.find page 4 =
        some { record 4 .current 1 with retain := true }) ∧
    (let s : State := { noticed [] [] with store := { (noticed [] []).store with directory := [] } };
      s.store.notices = ⟨page, 4, 1, 2⟩ :: [] ∧ (s.workEntry page 4 plate).store.find page 4 = none) := by decide

/-! #### Plates -/

theorem witness_SizeLoadDefinesCode : Ready plant ⟨1, .sizeLoad 3 32 65535⟩ := by decide

theorem witness_MapLoadRefusedOrApplied :
    Ready plant ⟨1, .mapLoad plate 0 3 2 [⟨page, 1, 499, 999⟩]⟩ ∧
    ([⟨0, 3, 0, 0⟩, ⟨0, 3, 0, 1⟩, ⟨7, 11, 1, 3⟩] : List PlateId).Pairwise (fun p q => plateBefore p q = true) := by decide

theorem witness_MapDeleteRefusedOrApplied : Ready plant ⟨1, .mapDelete plate⟩ := by decide

/-- Every record number in use but the last, and all of them. -/
def Tests.crowded (n : Nat) : State := { noticed [] [] with plates := { plant.plates with
  builds := (List.range n).map fun m => { build .ready none with bid := m, plate := ⟨0, 4, 0, 1⟩ } } }

theorem witness_BuildNeedCheck :
    plant.plates.map.find? (fun e => decide (e.id = ⟨0, 3, 0, 2⟩)) = none ∧
    plant.plates.map.find? (fun e => decide (e.id = plate)) = some entry ∧
    (∃ b ∈ (built .ready none).plates.builds, b.plate = plate ∧ b.cause = .none_) ∧
    (∃ q ∈ entry.positions, ∃ k, q.key = some k ∧ ∃ r, (crowded 31).store.current k = some r ∧ q.imaged < r.version) ∧
    (∀ n < 32, ∃ b ∈ (crowded 32).plates.builds, b.bid = n) ∧
    (31 < 32 ∧ (¬ ∃ b ∈ (crowded 31).plates.builds, b.bid = 31) ∧ ∀ n < 31, ∃ b ∈ (crowded 31).plates.builds, b.bid = n) := by
  refine ⟨by decide, by decide, by decide, ⟨⟨some page, false, 0, 0, 0⟩, by decide, page, rfl, _, rfl, by decide⟩, ?_, ?_⟩ <;>
  decide

/-- The pending list holds a plate id without an entry, then one that is in need. -/
theorem witness_BuildNeedCheck_pending :
    let s : State := { crowded 31 with plates := { (crowded 31).plates with pendingList := [⟨0, 3, 0, 2⟩, plate] } }
    let worked : Nat → State := fun k => (s.plates.pendingList.take k).foldl (fun u p => State.needCheck p none { u with
      plates := { u.plates with pendingList := u.plates.pendingList.filter fun q => decide (q ≠ p) } }) s;
    1 < s.plates.pendingList.length ∧ (∀ k ≤ 1, (worked k).plates.builds.length = s.plates.builds.length) ∧
    s.plates.builds.length < (worked 2).plates.builds.length ∧ plant.plates.pendingList.length = 0 := by decide

theorem witness_HoldsAndReleases :
    Ready plant ⟨1, .plateHold plate⟩ ∧ Ready plant ⟨1, .plateRelease plate⟩ ∧ Ready plant ⟨1, .lineHold 7⟩ ∧
    Ready plant ⟨1, .lineRelease 8⟩ := by decide

theorem witness_PlateCancelRetiresCurrentPlate :
    (Ready plant ⟨1, .plateCancel ⟨8, 0, 0, 0⟩⟩ ∧ plateOk ⟨8, 0, 0, 0⟩ = false) ∧
    (Ready plant ⟨1, .plateCancel plate⟩ ∧ plateOk plate = true ∧ plant.currentBuild plate = none ∧
      plant.currentItem plate = none) ∧
    ((built .ready none).currentBuild plate = some (build .ready none) ∧
      (built .open_ none).currentBuild plate = some (build .open_ none)) ∧
    ((built .exposing (some .a)).currentBuild plate = some (build .exposing (some .a)) ∧
      (build .exposing (some .a)).state ≠ .open_ ∧ (build .exposing (some .a)).state ≠ .ready ∧
      (build .exposing (some .a)).imager = some .a) ∧
    ((carrying (item .link .atGate none)).currentBuild plate = none ∧
      (carrying (item .link .atGate none)).currentItem plate = some (item .link .atGate none)) := by decide

theorem witness_ReplateClearsImagedVersions : Ready plant ⟨1, .replate 1 ⟨7, 255, 255, 255⟩⟩ := by decide

theorem witness_LineAssignAndStockSet :
    Ready plant ⟨1, .lineAssign 7 255⟩ ∧ Ready plant ⟨1, .stockSet (imagerCode .b) 3 255⟩ ∧ Ready plant ⟨1, .stockSet 2 3 255⟩ := by
  decide

theorem witness_DispatchPass :
    let s := built .ready none
    let b := build .ready none;
    s.resetAsserted = false ∧
    s.plates.builds.find? (fun c => decide (c.bid = b.bid)) = some b ∧
    s.plates.map.find? (fun f => decide (f.id = b.plate)) = some entry ∧
    (plant.chan.a.seq.state = .idle ∧ ∀ n ∈ plant.plates.queue, plant.eligible .a n = false) ∧
    (imagerA .fault id s).chan.a.seq.state ≠ .idle ∧
    (s.plates.queue = [] ++ b.bid :: [] ∧ s.eligible .a b.bid = true ∧ s.eligible .b b.bid = false ∧
      s.sched.assignment.getD b.plate.line none = some 2 ∧ s.plates.sizes.getD entry.size none = some ⟨1000, 500⟩) ∧
    (s.passOwed = false ∧ (∃ t, step s = .next t) ∧ { s with passOwed := true }.passOwed = true) ∧
    (entry.positions[0]? = some ⟨some page, false, 0, 0, 0⟩ ∧ b.bindings[0]? = some (.bound page 1) ∧
      s.store.find page 1 = some (record 1 .current 1) ∧ ([.waiting, .blank] : List Binding)[1]? = some .blank) :=
  ⟨by decide, by decide, by decide, by decide, by decide, by decide, ⟨by decide, ⟨_, rfl⟩, rfl⟩, by decide⟩

theorem witness_NoticeWorksEntry :
    plant.plates.map.find? (fun f => decide (f.id = plate)) = some entry ∧ plant.currentBuild plate = none ∧
    ((noticed [build .exposing (some .b)] []).currentBuild plate = some (build .exposing (some .b)) ∧
      (build .exposing (some .b)).imager = some .b) ∧
    (noticed [build .ready none] []).currentBuild plate = some (build .ready none) ∧
    entry.positions[0]? = some ⟨some page, false, 0, 0, 0⟩ ∧ (build .ready none).bindings[0]? = some (.bound page 1) ∧
    (∀ q ∈ entry.positions, q.key ≠ some ⟨1, 2, 3, 5, 0⟩) ∧
    (∀ m, m ≠ 0 → entry.positions[m]? = none) := by
  refine ⟨by decide, by decide, by decide, by decide, by decide, by decide, by decide, fun m h => ?_⟩
  cases m with
  | zero => exact absurd rfl h
  | succ m => rfl

/-! #### Exposure -/

theorem witness_CentredLineIndex : 1 ≤ 512 ∧ 512 ≤ 512 ∧ (-2000 : Int) ≤ 2000 ∧ (2000 : Int) ≤ 2000 ∧
    (targetLines 32768 2000 > 32768 ∧ targetLines 64 (-2000) = 64 ∧ targetLines 32768 (-2000) < 32768) := by decide

theorem witness_ImagerSetAndClear :
    Ready plant ⟨1, .imagerSet (imagerCode .b) ⟨4095, 1, 16777215, 1, 64, 65535, 7⟩⟩ ∧
    Ready (imagerA .fault id plant) ⟨1, .imagerClear (imagerCode .a)⟩ ∧ 2 ≤ 2 ∧
    Ready plant ⟨1, .imagerSet 2 ⟨0, 1, 1, 1, 1, 0, 1⟩⟩ ∧ Ready plant ⟨1, .imagerClear 255⟩ := by decide

/-- The record of an input whose change to high is accepted at this very sample, and the change. -/
def Tests.input : Input := ⟨true, 2, false, true, some ⟨47904000, 0⟩⟩

def Tests.inputLow : Input := ⟨true, 2, true, false, some ⟨47904000, 0⟩⟩

def Tests.change : PendingChange := ⟨47904000, 0⟩

/-- Imager A in a state with build 0, both deadlines at the present time, and its job in the composer. -/
def Tests.exposing (st : ImagerState) (f : Channel → Channel) : State :=
  imagerA st (fun c => f { c with
    composer := { job := some job, nextFill := 1, nextEmit := 0, fill := none, buf0 := ⟨.full, 0, [1, 2]⟩, buf1 := ⟨.free, 0, []⟩ },
    seq := { c.seq with loadDeadline := some 1000, spinDeadline := some 1000 } }) (built .exposing (some .a))

theorem witness_ClampArrival :
    (∀ st ∈ [ImagerState.spinup, .loading], (edge 0 true (exposing st id)).resetAsserted = false ∧
      accepting (edge 0 true (exposing st id)) 0 input change) ∧ input.raw = input.rising ∧
    accepting (edge 1 true plant) 1 input change ∧
    (exposing .spinup id).chan.a.seq.state ≠ .loading ∧
    (exposing .loading id).chan.a.seq.retired = false ∧
    (exposing .loading fun c => { c with seq := { c.seq with retired := true } }).chan.a.seq.retired = true := by decide

theorem witness_LoadAndSpinupTimeouts :
    ∀ st ∈ [ImagerState.loading, .spinup], let s := exposing st id;
      s.resetAsserted = false ∧ s.chan.a.seq.build = some 0 ∧
      s.plates.builds.find? (fun e => decide (e.bid = 0)) = some (build .exposing (some .a)) ∧ reached s.clock.time 1000 ∧
      s.chan.a.seq.state = st ∧ s.chan.a.seq.loadDeadline = some 1000 ∧ s.chan.a.seq.spinDeadline = some 1000 := by decide

/-- Imager A at an index: a drum that counted the nominal 36,000 counts in the shortest valid period. -/
def Tests.revolved (st : ImagerState) (run : Nat) : State := exposing st fun c => { c with
  drum := { c.drum with position := 36000, period := 2877188, first := false }, seq := { c.seq with validRun := run } }

theorem witness_IndexJudgesRevolution :
    (plant.resetAsserted = false ∧ plant.chan.a.seq.state ≠ .spinup ∧ plant.chan.a.seq.state ≠ .exposing) ∧
    (∀ run ∈ [2, 3], (revolved .spinup run).chan.a.seq.state = .spinup ∧
      judge (revolved .spinup run).chan.a.settings false false 36000 2877188 = none ∧
      (revolved .spinup run).chan.a.seq.validRun = run) ∧ 2 + 1 < 4 ∧ 4 ≤ 3 + 1 ∧
    (revolved .spinup 3).chan.a.seq.build = some 0 ∧ (revolved .exposing 0).chan.a.seq.state = .exposing := by decide

theorem witness_RevolutionWritesOrSkips :
    let c := (revolved .exposing 0).chan.a.composer
    let d : Composer := { c with buf0 := ⟨.full, 1, []⟩, buf1 := ⟨.full, 0, []⟩ }
    let full : Composer → Buffer → Prop := fun c b => b.state = .full ∧ b.swath = c.nextEmit;
    full c c.buf0 ∧ (¬ full d d.buf0 ∧ full d d.buf1) ∧
    (¬ full { c with nextEmit := 1 } c.buf0 ∧ ¬ full { c with nextEmit := 1 } c.buf1) := by decide

/-- Imager A emitting a swath, a number of reference ticks after the index. -/
def Tests.emitting (swath period : Nat) : State := exposing .exposing fun c => { c with
  composer := { c.composer with nextEmit := swath, nextFill := 32, buf0 := ⟨.emitting, swath, []⟩ },
  drum := { c.drum with period := period }, seq := { c.seq with emissionPending := true, revolution := some (.writing 0) } }

theorem witness_EmissionEnds :
    (∀ swath ∈ [30, 31], let c := (emitting swath 200000).chan.a;
      (emitting swath 200000).resetAsserted = false ∧ c.seq.state = .exposing ∧ c.seq.emissionPending = true ∧
      c.seq.revolution = some (.writing 0) ∧ c.composer.job = some job ∧
      (c.settings.g + job.x) * (2 * (c.settings.d + 1)) ≤ c.drum.period) ∧
    plant.chan.a.seq.emissionPending = false ∧
    (let c := (emitting 31 199999).chan.a;
      c.seq.revolution = some (.writing 0) ∧ c.composer.job = some job ∧
      c.drum.period < (c.settings.g + job.x) * (2 * (c.settings.d + 1))) := by decide

theorem witness_CarriagePulseAndSaturation : plant.resetAsserted = false := rfl

theorem witness_ExposureEnds :
    (exposing .exposing id).chan.a.seq.build = some 0 ∧
    (exposing .exposing id).plates.builds.find? (fun e => decide (e.bid = 0)) = some (build .exposing (some .a)) ∧
    (∀ st ∈ [ImagerState.spinup, .loading, .exitWait], (exposing st id).chan.a.seq.state = st) ∧
    (exposing .exposing id).chan.a.seq.emissionPending = false ∧
    (exposing .exposing fun c => { c with seq := { c.seq with emissionPending := true } }).chan.a.seq.emissionPending = true := by
  decide

theorem witness_EncoderTransition : plant.resetAsserted = false := rfl

/-! #### Tables and the line -/

theorem witness_WindowTimingAndMaskLoaded :
    Ready plant ⟨1, .windowLoad 8 5 65535⟩ ∧ Ready plant ⟨1, .timingLoad 0 60000⟩ ∧ Ready plant ⟨1, .reportMask 4⟩ := by decide

theorem witness_StationTablesLoaded :
    Ready plant ⟨1, .pressSet 5 3 1 [2000, -2000, 0, 1]⟩ ∧ Ready plant ⟨1, .patternLoad 15 [0, 11]⟩ ∧
    Ready plant ⟨1, .profileLoad 7 1 0⟩ ∧ Ready plant ⟨1, .cartLayout 5 12 4⟩ := by decide

/-- The plant with the line in a state, an item with a window, and, HALTED, a halt record of 255 further halts. -/
def Tests.lineIn (st : LineState) (items : List Item) : State := { plant with line := { plant.line with
  state := st, items := items,
  halt := if st = .halted then
    some ⟨.missing, some ⟨70, plate, 1, .transfer, .conveying⟩, some 4, none, 900, 255, none⟩ else none } }

theorem witness_LineHalts :
    (lineIn .running []).line.state = .running ∧
    ((lineIn .halted []).line.state = .halted ∧
      (lineIn .halted []).line.halt = some ⟨.missing, some ⟨70, plate, 1, .transfer, .conveying⟩, some 4, none, 900, 255, none⟩) ∧
    (lineIn .stopped []).line.state = .stopped := by decide

/-- The minimum of 901 ms is not met 900 ms after the start; a frozen window at its full count is met. -/
theorem witness_PhantomsAndExpiredWindows :
    let here : LineSensor → Item → Bool := fun x it => match it.window with
      | some w => decide (w.sensor = x)
      | none => false;
    let late : Window := { window .transferGate .tg with min := 901 }
    let stuck : Window := { window .deposit .sd with frozen := true, deadline := none, elapsed := some 65535 }
    let s := lineIn .running [item .transfer .conveying (some (window .transferGate .tg))];
    (s.resetAsserted = false ∧ accepting (edge 4 true (lineIn .stopped [])) 4 input change ∧ input.raw = input.rising ∧
      (lineIn .stopped []).line.items.find? (here .tg) = none) ∧
    (accepting (edge 4 true (lineIn .running [item .transfer .conveying (some late)])) 4 input change ∧
      ¬ (reached (stampOf input change) 100 ∧ 901 ≤ (stampOf input change + 4294967296 - 100) % 4294967296) ∧
      ¬ (late.frozen = true ∧ late.elapsed = some 65535)) ∧
    (s.line.items.find? (here .tg) = some (item .transfer .conveying (some (window .transferGate .tg))) ∧
      (window .transferGate .tg).deadline = some 1000 ∧ reached s.clock.time 1000) ∧
    (lineIn .running [item .sort .inStation (some stuck)]).line.items.find? (here .sd) =
      some (item .sort .inStation (some stuck)) ∧ stuck.frozen = true := by decide

theorem witness_GatesAndReleases :
    let it := item .transfer .conveying none
    let above : Item → Bool := fun j => decide (j.zone = .transfer ∧ (j.location = .merging ∨ j.location = .conveying));
    (let l := (lineIn .running [it]).line;
      l.state = .running ∧ (∀ j ∈ l.items, j.zone = .transfer → j.location ≠ .atGate) ∧
      (∀ j ∈ l.items, j.zone = .punch → j.location ≠ .entering) ∧ l.items.find? above = some it ∧
      it.location = .conveying ∧ it.window = none) ∧
    (lineIn .stopped [it]).line.state ≠ .running ∧
    (lineIn .running [item .transfer .merging none]).line.items.find? above = some (item .transfer .merging none) ∧
    (let l := (lineIn .running [item .outfeed .atGate none]).line;
      l.items.find? (fun j => decide (j.zone = .sort)) = none ∧
      l.items.find? (fun j => decide (j.zone = .outfeed)) = some (item .outfeed .atGate none)) ∧
    (lineIn .running [item .outfeed .atGate none, item .sort .inStation none]).line.items.find?
      (fun j => decide (j.zone = .sort)) ≠ none ∧
    (let j : Item := { item .bend .inStation none with work := some .done };
      (lineIn .running [j]).line.items.find? (fun j => decide (j.zone = .bend)) = some j ∧ Station.bend ≠ .sort ∧
      j.location = .inStation ∧ j.work = some .done) ∧
    (item .bend .inStation none).work ≠ some .done := by decide

/-- One arrival for each window kind, accepted exactly at the window's minimum, and a deposit to each destination. -/
def Tests.arriving (z : Zone) (l : Location) (k : WindowKind) (x : LineSensor) (d : Destination) : State :=
  edge (sensorInput x) true { lineIn .running [item z l (some { window k x with min := 900 })] with
    sorter := { plant.sorter with state := .depositing, item := some 70, destination := some d } }

theorem witness_LineSensorMatches :
    (∀ r ∈ ([(.transfer, .merging, .exit, .exitA), (.transfer, .conveying, .transferGate, .tg),
        (.link, .conveying, .linkGate, .lg), (.outfeed, .conveying, .outfeedGate, .og), (.punch, .entering, .punchEntry, .ps),
        (.bend, .entering, .bendEntry, .bs), (.sort, .entering, .sortEntry, .ss), (.sort, .inStation, .deposit, .sd)] :
        List (Zone × Location × WindowKind × LineSensor)),
      let w : Window := { window r.2.2.1 r.2.2.2 with min := 900 }
      let s := arriving r.1 r.2.1 r.2.2.1 r.2.2.2 .reject;
      s.resetAsserted = false ∧ accepting s (sensorInput r.2.2.2) input change ∧ input.raw = input.rising ∧
      s.line.items.find? (fun j => match j.window with
        | some v => decide (v.sensor = r.2.2.2)
        | none => false) = some (item r.1 r.2.1 (some w)) ∧
      (reached (stampOf input change) w.start ∧ w.min ≤ (stampOf input change + 4294967296 - w.start) % 4294967296)) ∧
    (∀ d ∈ [Destination.reject, .remake, .cart 5 95], let s := arriving .sort .inStation .deposit .sd d;
      s.sorter.state = .depositing ∧ s.sorter.destination = some d) ∧
    ([⟨some page, false, 0, 0, 0⟩] : List Position)[0]? = some ⟨some page, false, 0, 0, 0⟩ ∧
    ([.bound page 1] : List Binding)[0]? = some (.bound page 1) := by decide

/-- Imager A in EXIT_WAIT with its build, and exit requests of the merge. -/
def Tests.merging (rs : List ExitRequest) (deadline : Option Nat) : State :=
  { imagerA .exitWait id (built .exiting (some .a)) with
    line := { plant.line with merge := { requests := rs, lastGrant := deadline, deadline := deadline, spacingOver := false } } }

theorem witness_MergeGrantAndSpacing :
    (let s := merging [⟨.b, 2⟩, ⟨.a, 1⟩] none;
      s.resetAsserted = false ∧ s.line.state = .running ∧ (s.line.items.filter fun it => decide (it.zone = .transfer)).length < 4 ∧
      s.line.merge.lastGrant = none ∧ s.line.merge.requests = [⟨.b, 2⟩] ++ ⟨.a, 1⟩ :: [] ∧ 1 < 2 ∧
      s.chan.a.seq.build = some 0 ∧ s.plates.builds.find? (fun c => decide (c.bid = 0)) = some (build .exiting (some .a))) ∧
    (plant.line.merge.requests = [] ∧ plant.line.merge.deadline = none) ∧
    ((merging [⟨.a, 1⟩] (some 1000)).line.merge.lastGrant ≠ none ∧
      (merging [⟨.a, 1⟩] (some 1000)).line.merge.deadline = some 1000) := by decide

theorem witness_LineStartStopResume :
    Ready plant ⟨1, .lineStart⟩ ∧ Ready plant ⟨1, .lineStop⟩ ∧ Ready plant ⟨1, .lineResume 2⟩ ∧ 1 < 2 ∧
    (1 ≤ 1 ∧ plant.line.state ≠ .halted) ∧
    (Ready (lineIn .halted [item .transfer .conveying none]) ⟨1, .lineResume 1⟩ ∧
      (lineIn .halted [item .transfer .conveying none]).line.halt =
        some ⟨.missing, some ⟨70, plate, 1, .transfer, .conveying⟩, some 4, none, 900, 255, none⟩) := by decide

/-! #### The stations -/

/-- Die 4 in stroke since a time, as the last die of the pattern or not. -/
def Tests.stroking (n since : Nat) (cause : Cause) : State :=
  edge (11 + n) true { carrying { item .punch .inStation none with cause := cause } with punch := { plant.punch with
    state := .stroking, item := some 70, pattern := some [0, 4, 7], nextDie := 2, die := some 4, start := some since,
    deadline := some 1000, dies := plant.punch.dies.set 4 true } }

theorem witness_PunchWork :
    (plant.resetAsserted = false ∧ (lineIn .halted []).line.state ≠ .running ∧ (stroking 4 900 .none_).punch.state ≠ .idle) ∧
    (let it := item .punch .inStation none
      let s := carrying it;
      s.line.state = .running ∧ s.punch.state = .idle ∧ s.line.items.find? (fun j => decide (j.zone = .punch)) = some it ∧
      s.line.items.find? (fun j => decide (j.order = it.order)) = some it ∧ it.location = .inStation ∧
      it.work = some .working ∧ it.entryTime = some 950 ∧ it.cause = .none_ ∧ s.sched.assignment.getD it.plate.line none = some it.press ∧
      s.punch.presses.getD it.press none = some ⟨3, 1, [350, 200, 0, -150]⟩ ∧
      s.punch.patterns.getD 3 none = some (0 :: [4, 7])) ∧
    ({ item .punch .inStation none with cause := .cancelled }.cause ≠ .none_ ∧
      ({ carrying (item .punch .inStation none) with sched := State.reset.sched } : State).sched.assignment.getD 0 none ≠ some 2) ∧
    (∀ n ∈ [0, 4, 11], n ≤ 11 ∧ accepting (stroking n 1000 .none_) (11 + n) input change) ∧ input.raw = input.rising ∧
    ¬ (some 4 = some 11) ∧
    (let s := stroking 4 1000 .none_;
      s.punch.state = .stroking ∧ s.punch.die = some 4 ∧ s.punch.start = some 1000 ∧ reached (stampOf input change) 1000 ∧
      s.punch.item = some 70 ∧ s.punch.pattern = some [0, 4, 7]) ∧
    ¬ reached (stampOf input change) 1001 := by decide

/-- A bend in stroke since a time. -/
def Tests.bending (k : BendKind) (since : Nat) : State :=
  edge 23 true { carrying (item .bend .inStation none) with bend := { plant.bend with
    state := .bending, item := some 70, profile := some ⟨true, true⟩, bend := some k, start := some since,
    deadline := some 1000, outLead := decide (k = .lead), outTail := decide (k = .tail) } }

theorem witness_BendWork :
    (plant.resetAsserted = false ∧ (bending .lead 900).bend.state ≠ .idle) ∧
    (let it := item .bend .inStation none
      let s := carrying it;
      s.line.state = .running ∧ s.bend.state = .idle ∧ s.line.items.find? (fun j => decide (j.zone = .bend)) = some it ∧
      it.location = .inStation ∧ it.work = some .working ∧ it.entryTime = some 950 ∧ it.cause = .none_ ∧
      s.punch.presses.getD it.press none = some ⟨3, 1, [350, 200, 0, -150]⟩ ∧
      s.bend.profiles.getD 1 none = some ⟨true, true⟩) ∧
    { item .bend .inStation none with cause := .faulty }.cause ≠ .none_ ∧
    (accepting (edge 23 true plant) 23 input change ∧ input.raw = input.rising ∧ plant.bend.state ≠ .bending) ∧
    (∀ k ∈ [BendKind.lead, .tail], let s := bending k 1000;
      accepting s 23 input change ∧ s.bend.state = .bending ∧ s.bend.bend = some k ∧ s.bend.start = some 1000 ∧
      reached (stampOf input change) 1000 ∧ s.bend.item = some 70 ∧ s.bend.profile = some ⟨true, true⟩) := by decide

theorem witness_StrokeTimeouts :
    (let s := stroking 4 900 .none_;
      s.resetAsserted = false ∧ s.line.items.find? (fun j => decide (j.order = 70)) = some (item .punch .inStation none) ∧
      s.punch.state = .stroking ∧ s.punch.item = some 70 ∧ s.punch.die = some 4 ∧ s.punch.deadline = some 1000 ∧
      reached s.clock.time 1000) ∧
    (let s := bending .tail 900;
      s.line.items.find? (fun j => decide (j.order = 70)) = some (item .bend .inStation none) ∧ s.bend.state = .bending ∧
      s.bend.item = some 70 ∧ s.bend.bend = some .tail ∧ s.bend.deadline = some 1000) ∧ ¬ reached 999 1000 := by decide

theorem witness_SlotOfPlate :
    (1 ≤ 12 ∧ 12 ≤ 12 ∧ 1 ≤ 4 ∧ 4 ≤ 4) ∧ plate.face ≤ 1 ∧ Layout.slotOf ⟨12, 4⟩ ⟨3, 11, 1, 3⟩ = some 95 ∧
    Layout.slotOf ⟨12, 4⟩ ⟨0, 11, 1, 3⟩ = some 95 ∧ 11 < 12 ∧ 3 < 4 ∧
    (let it : Item := { item .sort .inStation none with plate := ⟨0, 6, 0, 0⟩ };
      let cart := plant.sorter.carts.getD it.press ⟨none, false, []⟩;
      it.cause = .none_ ∧ plant.sched.assignment.getD it.plate.line none = some it.press ∧ cart.present = true ∧
      cart.layout = some ⟨6, 4⟩ ∧ Layout.slotOf ⟨6, 4⟩ it.plate = none) ∧
    (⟨none, true, []⟩ : Cart).layout = none := by decide

theorem witness_CartsAttachAndDetach :
    ∀ n ∈ [0, 5], n ≤ 5 ∧ (accepting (edge (24 + n) true plant) (24 + n) input change ∧ input.raw = input.rising) ∧
      (accepting (edge (24 + n) false plant) (24 + n) inputLow change ∧ inputLow.raw ≠ inputLow.rising) := by decide

theorem witness_SortDecision :
    (let it := item .sort .inStation none
      let s := carrying it;
      s.line.items.find? (fun j => decide (j.order = it.order)) = some it ∧ s.resetAsserted = false ∧
      s.line.state = .running ∧ s.sorter.state = .idle ∧ s.line.items.find? (fun j => decide (j.zone = .sort)) = some it ∧
      it.location = .inStation ∧ it.work = some .working ∧ it.entryTime = some 950) ∧
    (let s : State := { plant with sorter := { plant.sorter with state := .blocked, destination := some .remake } };
      s.sorter.state = .blocked ∧ s.sorter.destination = some .remake ∧ plant.sorter.state ≠ .blocked) ∧
    (lineIn .halted []).line.state ≠ .running ∧
    accepting (edge 30 true plant) 30 input change ∧ accepting (edge 31 true plant) 31 input change ∧
    input.raw = input.rising := by decide

theorem witness_SensorsAndTimebase :
    (plant.resetAsserted = false ∧ 31 < 32 ∧ plant.overdue 31 = false ∧ (edge 31 true plant).overdue 31 = false ∧
      (edge 31 true plant).inputs[31]? = some input ∧ input.change = some change ∧
      plant.inputs[31]? = some ⟨true, 2, false, false, none⟩) ∧
    (Ready plant ⟨1, .sensorSet 32 0 0⟩ ∧ 31 < 32) ∧
    (Ready plant ⟨1, .sensorSet 29 1 15⟩ ∧ 29 ≤ 31 ∧ 1 ≤ 1 ∧ 15 ≤ 15 ∧ plant.inputs[29]? = some ⟨true, 2, false, false, none⟩) ∧
    (accepting (edge 0 false plant) 0 inputLow change ∧ inputLow.raw ≠ inputLow.rising) := by decide

theorem witness_RestartEmptiesBlocks : Ready plant ⟨1, .restart⟩ ∧ DirectoryDistinct plant := by decide

theorem witness_QueriesChangeNothing :
    Ready plant ⟨1, .queryPage page 255⟩ ∧ Ready plant ⟨1, .queryPlate plate⟩ ∧ Ready plant ⟨1, .queryImager 1⟩ ∧
    Ready plant ⟨1, .queryLine⟩ ∧ Ready plant ⟨1, .queryStore⟩ := by decide
end

