-- ==== Sys2Proof/Proofs/Steps.lean ====
section
/-! PROOF. What a step can do, said once: an event's effect or a request's, with what follows it, or one of the two reset
commands. An invariant is then shown for each effect, and holds of every step. -/

namespace Sys2Proof.Machine

/-- The effects of the events, one for each command that is no request and no reset command; `idle` is the event whose
conditions do not hold (log 2). -/
inductive Effect : (State → State) → Prop
  | idle : Effect id
  | frame (bytes : List Byte) : Effect (State.frameArrives bytes)
  | transfer (t : Transfer) : Effect (State.transferEnds t)
  | lane : Effect State.laneFreed
  | notice : Effect State.workNotice
  | receiveTimeout (stream : Nat) : Effect (State.receiveExpires stream)
  | dispatch : Effect State.dispatchPass
  | arrival (n : Nat) : Effect (State.arrival n)
  | departure (n : Nat) : Effect (State.departure n)
  | loadTimeout (i : Imager) : Effect (State.loadExpires i)
  | spinupTimeout (i : Imager) : Effect (State.spinupExpires i)
  | index (i : Imager) : Effect (State.indexPulse i)
  | emissionEnd (i : Imager) : Effect (State.emissionEnds i)
  | pulseEnd (i : Imager) : Effect (State.pulseEnds i)
  | saturation (i : Imager) : Effect (State.stalls i)
  | encoder (i : Imager) (phase : Phase) : Effect (State.encoder i phase)
  | mergeGrant : Effect State.mergeGrants
  | spacing : Effect State.spacingExpires
  | windowExpiry (x : LineSensor) : Effect (State.windowExpires x)
  | gateOpen (st : Station) : Effect (State.gateOpens st)
  | itemRelease (st : Station) : Effect (State.itemReleases st)
  | punchEntry : Effect State.punchEntry
  | dieTimeout : Effect State.dieExpires
  | bendEntry : Effect State.bendEntry
  | bendTimeout : Effect State.bendExpires
  | sortEntry : Effect State.sortEntry
  | tick : Effect State.toNextTick
  | rawLevel (n : Nat) (level : Bool) : Effect (State.rawLevel n level)

/-- What the owners make of the requests, one for each request of Table 10.7. -/
inductive Applies : (State → Answer) → Prop
  | pageOpen (st : Nat) (k : PageKey) (v w h r : Nat) : Applies (applyPageOpen st k v w h r)
  | pageAbandon (st : Nat) : Applies (applyPageAbandon st)
  | pageRelease (k : PageKey) (v : Nat) : Applies (applyPageRelease k v)
  | mapLoad (p : PlateId) (z c a : Nat) (ps : List PosArgs) : Applies (applyMapLoad p z c a ps)
  | mapDelete (p : PlateId) : Applies (applyMapDelete p)
  | sizeLoad (c l x : Nat) : Applies (applySizeLoad c l x)
  | hold (p : PlateId) (b : Bool) : Applies (applyHold p b)
  | lineHold (l : Nat) (b : Bool) : Applies (applyLineHold l b)
  | plateCancel (p : PlateId) : Applies (applyPlateCancel p)
  | replate (f : Nat) (p : PlateId) : Applies (applyReplate f p)
  | pressSet (p a b : Nat) (fs : List Int) : Applies (applyPressSet p a b fs)
  | lineAssign (l p : Nat) : Applies (applyLineAssign l p)
  | patternLoad (p : Nat) (ds : List Nat) : Applies (applyPatternLoad p ds)
  | profileLoad (p l e : Nat) : Applies (applyProfileLoad p l e)
  | cartLayout (c u a : Nat) : Applies (applyCartLayout c u a)
  | windowLoad (e lo hi : Nat) : Applies (applyWindowLoad e lo hi)
  | timingLoad (e v : Nat) : Applies (applyTimingLoad e v)
  | sensorSet (n e f : Nat) : Applies (applySensorSet n e f)
  | imagerSet (i : Nat) (a : SettingArgs) : Applies (applyImagerSet i a)
  | stockSet (i z c : Nat) : Applies (applyStockSet i z c)
  | imagerClear (i : Nat) : Applies (applyImagerClear i)
  | lineStart : Applies applyLineStart
  | lineStop : Applies applyLineStop
  | lineResume (d : Nat) : Applies (applyLineResume d)
  | reportMask (m : Nat) : Applies (applyReportMask m)
  | query (f : State → Code × List Byte) : Applies (fun s => answered (f s) s)
  | restart : Applies applyRestart

/-- The states that a command can lead to. -/
inductive Outcomes (s : State) : State → Prop
  | same : Outcomes s s
  | event (f : State → State) (h : Effect f) : Outcomes s (f s).finish
  | answer (a : State → Answer) (t : TaggedRequest) (h : Applies a) : Outcomes s ((a s).replied t).finish
  | joins (t : TaggedRequest) : Outcomes s (State.finish { s with link := { s.link with requests := [t] } })
  | asserted : Outcomes s s.assertReset
  | powerOn (levels : BitVec 32) (a b : Phase) : Outcomes s (s.powerOn levels a b)

theorem taken_outcomes {f : State → State} {s t : State} (hf : Effect f) (h : taken f s = .next t) : Outcomes s t := by
  rcases taken_next h with ⟨-, rfl⟩ | ⟨-, rfl⟩
  · exact .same
  · exact .event f hf

/-- An event that names no existing object, or an input of another kind, has no effect. -/
theorem taken_ite_outcomes {p : Prop} [Decidable p] {f : State → State} {s t : State} (hf : Effect f)
    (h : taken (fun s => if p then f s else s) s = .next t) : Outcomes s t := by
  by_cases hp : p
  · simp only [hp, if_true] at h
    exact taken_outcomes hf h
  · simp only [hp, if_false] at h
    exact taken_outcomes .idle h

theorem request_outcomes {q : TaggedRequest} {a : State → Answer} {s t : State} (ha : Applies a)
    (h : request q a s = .next t) : Outcomes s t := by
  rcases taken_next h with ⟨-, rfl⟩ | ⟨-, rfl⟩
  · exact .same
  · rcases State.handOn_cases q a s with ⟨-, hq⟩ | ⟨-, -, hq⟩ | hq <;> rw [hq]
    · exact .answer a q ha
    · exact .joins q
    · exact .event id .idle

theorem transferEnd_outcomes {s t : State} (h : execTransferEnd s = .next t) : Outcomes s t := by
  unfold execTransferEnd at h
  split at h
  · exact taken_outcomes .idle h
  · split at h
    · cases h
    · exact taken_outcomes (.transfer _) h

theorem exec_outcomes {c : Instr} {s t : State} (h : exec c s = .next t) : Outcomes s t := by
  cases c with
  | powerOnReset l a b => cases h; exact .powerOn l a b
  | resetAsserted => cases h; exact .asserted
  | transferEnd => exact transferEnd_outcomes h
  | downstreamFrame bytes => exact taken_outcomes (.frame bytes) h
  | completionNotice => exact taken_outcomes .notice h
  | receiveTimeout n => exact taken_outcomes (.receiveTimeout n) h
  | dispatch => exact taken_outcomes .dispatch h
  | clampArrival i => exact taken_outcomes (.arrival _) h
  | loadTimeout i => exact taken_outcomes (.loadTimeout i) h
  | spinupTimeout i => exact taken_outcomes (.spinupTimeout i) h
  | index i => exact taken_outcomes (.index i) h
  | emissionEnd i => exact taken_outcomes (.emissionEnd i) h
  | carriagePulseEnd i => exact taken_outcomes (.pulseEnd i) h
  | periodSaturation i => exact taken_outcomes (.saturation i) h
  | mergeGrant => exact taken_outcomes .mergeGrant h
  | spacingExpiry => exact taken_outcomes .spacing h
  | lineSensorArrival x => exact taken_outcomes (.arrival _) h
  | windowExpiry x => exact taken_outcomes (.windowExpiry x) h
  | gateOpen st => exact taken_outcomes (.gateOpen st) h
  | itemRelease st => exact taken_outcomes (.itemRelease st) h
  | punchEntry => exact taken_outcomes .punchEntry h
  | dieHomeArrival n => exact taken_ite_outcomes (.arrival _) h
  | dieTimeout => exact taken_outcomes .dieTimeout h
  | bendEntry => exact taken_outcomes .bendEntry h
  | bendDoneArrival => exact taken_outcomes (.arrival _) h
  | bendTimeout => exact taken_outcomes .bendTimeout h
  | sortEntry => exact taken_outcomes .sortEntry h
  | cartAttach n => exact taken_ite_outcomes (.arrival _) h
  | cartDetach n => exact taken_ite_outcomes (.departure _) h
  | exitEmptied e => exact taken_outcomes (.arrival _) h
  | upstreamFrameEnd => exact taken_outcomes .lane h
  | lineTimebaseTick => exact taken_outcomes .tick h
  | encoderTransition i ph => exact taken_outcomes (.encoder i ph) h
  | rawLevelChange n level => exact taken_outcomes (.rawLevel n level) h
  | inactiveEdgeAcceptance n =>
    have h' : taken (fun s => if isCartInput n = true then s else s.departure n) s = .next t := h
    cases hc : isCartInput n
    · simp only [hc, Bool.false_eq_true, if_false] at h'
      exact taken_outcomes (.departure n) h'
    · simp only [hc, if_true] at h'
      exact taken_outcomes .idle h'
  | pageOpen tag st k v w hh r => exact request_outcomes (.pageOpen ..) h
  | pageAbandon tag st => exact request_outcomes (.pageAbandon _) h
  | pageRelease tag k v => exact request_outcomes (.pageRelease ..) h
  | mapLoad tag p z c a ps => exact request_outcomes (.mapLoad ..) h
  | mapDelete tag p => exact request_outcomes (.mapDelete _) h
  | sizeLoad tag c l x => exact request_outcomes (.sizeLoad ..) h
  | plateHold tag p => exact request_outcomes (.hold ..) h
  | plateRelease tag p => exact request_outcomes (.hold ..) h
  | lineHold tag l => exact request_outcomes (.lineHold ..) h
  | lineRelease tag l => exact request_outcomes (.lineHold ..) h
  | plateCancel tag p => exact request_outcomes (.plateCancel _) h
  | replate tag f p => exact request_outcomes (.replate ..) h
  | pressSet tag p a b fs => exact request_outcomes (.pressSet ..) h
  | lineAssign tag l p => exact request_outcomes (.lineAssign ..) h
  | patternLoad tag p ds => exact request_outcomes (.patternLoad ..) h
  | profileLoad tag p l e => exact request_outcomes (.profileLoad ..) h
  | cartLayout tag c u a => exact request_outcomes (.cartLayout ..) h
  | windowLoad tag e lo hi => exact request_outcomes (.windowLoad ..) h
  | timingLoad tag e v => exact request_outcomes (.timingLoad ..) h
  | sensorSet tag n e f => exact request_outcomes (.sensorSet ..) h
  | imagerSet tag i a => exact request_outcomes (.imagerSet ..) h
  | stockSet tag i z c => exact request_outcomes (.stockSet ..) h
  | imagerClear tag i => exact request_outcomes (.imagerClear _) h
  | lineStart tag => exact request_outcomes .lineStart h
  | lineStop tag => exact request_outcomes .lineStop h
  | lineResume tag d => exact request_outcomes (.lineResume _) h
  | reportMask tag m => exact request_outcomes (.reportMask _) h
  | queryPage tag k v => exact request_outcomes (.query fun s => s.queryPage k v) h
  | queryPlate tag p => exact request_outcomes (.query fun s => s.queryPlate p) h
  | queryImager tag n => exact request_outcomes (.query fun s => s.queryImager n) h
  | queryLine tag => exact request_outcomes (.query State.queryLine) h
  | queryStore tag => exact request_outcomes (.query State.queryStore) h
  | restart tag => exact request_outcomes .restart h

/-- A step is an outcome of a command on the state without it, or a reference tick (log 1). -/
theorem step_outcomes {s t : State} (h : step s = .next t) :
    t = s.referenceTick ∨ ∃ cs, Outcomes { s with pending := cs } t := by
  unfold step at h
  split at h
  · have hs : ({ s with pending := s.pending } : State) = s := rfl
    unfold idle at h
    split at h
    · cases h; exact .inr ⟨s.pending, .same⟩
    · split at h
      · cases h; exact .inl rfl
      · exact .inr ⟨s.pending, exec_outcomes h⟩
  · exact .inr ⟨_, exec_outcomes h⟩

/-- An invariant that the passing of time, what follows an event, the replies, the two reset commands, every event and
every request keep is kept by every step. -/
theorem step_keeps {P : State → Prop}
    (pending : ∀ s cs, P s → P { s with pending := cs })
    (requests : ∀ (s : State) q, P s → P { s with link := { s.link with requests := q } })
    (replies : ∀ (s : State) r, P s → P (s.addReply r))
    (pump : ∀ s : State, P s → P s.pump)
    (pass : ∀ s : State, P s → P s.makePass)
    (tick : ∀ s : State, P s → P s.referenceTick)
    (asserted : ∀ s : State, P s → P s.assertReset)
    (power : ∀ (s : State) l a b, P s → P (s.powerOn l a b))
    (effect : ∀ f, Effect f → ∀ s, P s → P (f s))
    (applies : ∀ a, Applies a → ∀ s, P s → P (a s).state)
    {s t : State} (hs : P s) (h : step s = .next t) : P t := by
  have finish : ∀ u : State, P u → P u.finish := fun u hu => pump _ (pass _ hu)
  rcases step_outcomes h with rfl | ⟨cs, ho⟩
  · exact tick s hs
  · have hs := pending s cs hs
    cases ho with
    | same => exact hs
    | event f hf => exact finish _ (effect f hf _ hs)
    | answer a q ha => exact finish _ (replies _ _ (requests _ _ (pass _ (applies a ha _ hs))))
    | joins q => exact finish _ (requests _ _ hs)
    | asserted => exact asserted _ hs
    | powerOn l a b => exact power _ l a b hs

/-! ### The raster memory (R7, R81) -/

theorem effect_memoryCanonical {f : State → State} (hf : Effect f) (s : State) (h : MemoryCanonical s) :
    MemoryCanonical (f s) := by
  cases hf with
  | transfer t => exact State.transferEnds_wf t s h
  | _ => simpa [MemoryCanonical] using h

theorem applies_memoryCanonical {a : State → Answer} (ha : Applies a) (s : State) (h : MemoryCanonical s) :
    MemoryCanonical (a s).state := by
  cases ha <;> simpa [MemoryCanonical] using h

theorem powerOn_memory (s : State) (l : BitVec 32) (a b : Phase) : (s.powerOn l a b).store = Store.reset := by
  simp [State.powerOn, State.attachFound_eq, State.released]

/-- Settles O6: TRANSFER_END alone writes the raster memory (`State.transferEnds_wf`), and reset empties it. -/
theorem stepKeepsMemoryCanonical : Obligations.StepKeepsMemoryCanonical := by
  intro s t hs h
  refine step_keeps (P := MemoryCanonical) ?_ ?_ ?_ ?_ ?_ ?_ ?_ ?power
    (fun f hf => effect_memoryCanonical hf) (fun a ha => applies_memoryCanonical ha) hs h
  case power =>
    intro s l a b _
    simp [MemoryCanonical, powerOn_memory, Store.reset, Memory.wf]
  all_goals
    intros
    simpa [MemoryCanonical, State.assertReset] using ‹MemoryCanonical _›

end Sys2Proof.Machine
end


-- ==== Sys2Proof/Proofs/Cells.lean ====
section
/-! PROOF. The Page Directory and its cells: what freeing, rebinding, opening, dropping, receiving and completing a record
do to the balance of the cell pool and to the account of every cell. -/

namespace Sys2Proof.Machine

/-! ### Records and lookups -/

theorem PageRecord.isFor_iff {r : PageRecord} {k : PageKey} {v : Nat} : r.isFor k v = true ↔ r.key = k ∧ r.version = v := by
  simp [PageRecord.isFor]

theorem Store.find_mem {t : Store} {k : PageKey} {v : Nat} {r : PageRecord} (h : t.find k v = some r) :
    r ∈ t.directory ∧ r.key = k ∧ r.version = v :=
  ⟨List.mem_of_find?_eq_some h, PageRecord.isFor_iff.mp
    (List.find?_some (p := fun q : PageRecord => q.isFor k v) (l := t.directory) h)⟩

/-- One record of each key and version (R1). -/
abbrev DistinctRecords (l : List PageRecord) : Prop := l.Pairwise fun q r => ¬ (q.key = r.key ∧ q.version = r.version)

theorem DistinctRecords.eq_of_same {l : List PageRecord} (h : DistinctRecords l) {q r : PageRecord} (hq : q ∈ l)
    (hr : r ∈ l) (hk : q.key = r.key) (hv : q.version = r.version) : q = r := by
  by_contra hne
  have : Std.Symm fun q r : PageRecord => ¬ (q.key = r.key ∧ q.version = r.version) :=
    ⟨fun _ _ h h' => h ⟨h'.1.symm, h'.2.symm⟩⟩
  exact List.Pairwise.forall h hq hr hne ⟨hk, hv⟩

theorem DistinctRecords.map {l : List PageRecord} (h : DistinctRecords l) {f : PageRecord → PageRecord}
    (hk : ∀ r, (f r).key = r.key) (hv : ∀ r, (f r).version = r.version) : DistinctRecords (l.map f) :=
  List.pairwise_map.mpr (h.imp fun hqr => by simpa [hk, hv] using hqr)

theorem DistinctRecords.find {t : Store} (h : DistinctRecords t.directory) {r : PageRecord} (hr : r ∈ t.directory) :
    t.find r.key r.version = some r := by
  cases hf : t.find r.key r.version with
  | none => exact absurd (List.find?_eq_none.mp hf r hr) (by simp [PageRecord.isFor])
  | some q =>
    obtain ⟨hq, hk, hv⟩ := Store.find_mem hf
    rw [h.eq_of_same hq hr hk hv]

/-- A directory of distinct records is the record and the rest. -/
theorem DistinctRecords.perm_filter {l : List PageRecord} (h : DistinctRecords l) {r : PageRecord} (hr : r ∈ l) :
    l.Perm (r :: l.filter fun q => !q.isFor r.key r.version) := by
  induction l with
  | nil => cases hr
  | cons a l ih =>
    obtain ⟨ha, hl⟩ := List.pairwise_cons.mp h
    rcases List.mem_cons.mp hr with rfl | hr'
    · have hrest : l.filter (fun q => !q.isFor r.key r.version) = l :=
        List.filter_eq_self.mpr fun q hq => by
          have := ha q hq
          simp only [Bool.not_eq_true', ← Bool.not_eq_true, PageRecord.isFor_iff]
          exact fun ⟨h1, h2⟩ => this ⟨h1.symm, h2.symm⟩
      rw [List.filter_cons_of_neg (by simp [PageRecord.isFor]), hrest]
    · have hkeep : (!a.isFor r.key r.version) = true := by
        simp only [Bool.not_eq_true', ← Bool.not_eq_true, PageRecord.isFor_iff]
        exact ha r hr'
      rw [List.filter_cons_of_pos (p := fun q : PageRecord => !q.isFor r.key r.version) hkeep]
      exact ((ih hl hr').cons a).trans (.swap r a _)

/-! ### The balance of the cell pool (R3) -/

/-- The clauses of `CellPoolBalanced`, of the store alone. -/
structure Store.Balanced (t : Store) : Prop where
  distinct : DistinctRecords t.directory
  bounded : t.directory.length ≤ 256
  balance : t.freeCells + (t.directory.map fun r => r.height).sum = 32768

theorem cellPoolBalanced_iff (s : State) : CellPoolBalanced s ↔ s.store.Balanced :=
  ⟨fun ⟨h1, h2, h3⟩ => ⟨h1, h2, h3⟩, fun h => ⟨h.1, h.2, h.3⟩⟩

theorem Store.Balanced.of_same {t u : Store} (h : t.Balanced) (hd : u.directory = t.directory)
    (hf : u.freeCells = t.freeCells) : u.Balanced := by
  obtain ⟨h1, h2, h3⟩ := h
  exact ⟨hd ▸ h1, hd ▸ h2, by rw [hd, hf]; exact h3⟩

/-- An update of records that keeps their keys, versions and heights keeps the balance. -/
theorem Store.Balanced.map {t u : Store} (h : t.Balanced) {f : PageRecord → PageRecord}
    (hk : ∀ r, (f r).key = r.key) (hv : ∀ r, (f r).version = r.version) (hh : ∀ r, (f r).height = r.height)
    (hd : u.directory = t.directory.map f) (hf : u.freeCells = t.freeCells) : u.Balanced := by
  obtain ⟨h1, h2, h3⟩ := h
  refine ⟨hd ▸ h1.map hk hv, by simpa [hd] using h2, ?_⟩
  rw [hd, hf, List.map_map, ← h3]
  simp [Function.comp_def, hh]

theorem Store.Balanced.modify {t : Store} (h : t.Balanced) (k : PageKey) (v : Nat) {f : PageRecord → PageRecord}
    (hk : ∀ r, (f r).key = r.key) (hv : ∀ r, (f r).version = r.version) (hh : ∀ r, (f r).height = r.height) :
    (t.modify k v f).Balanced := by
  refine h.map (f := fun r => if r.isFor k v then f r else r) ?_ ?_ ?_ rfl rfl <;>
    intro r <;> split <;> simp [hk, hv, hh]

theorem Store.Balanced.giveBack {t : Store} (h : t.Balanced) {r : PageRecord} (hr : r ∈ t.directory) :
    (t.giveBack r).Balanced := by
  obtain ⟨h1, h2, h3⟩ := h
  refine ⟨h1.filter _, le_trans (List.length_filter_le _ _) h2, ?_⟩
  have hsum := ((h1.perm_filter hr).map fun q => q.height).sum_eq
  simp only [List.map_cons, List.sum_cons] at hsum
  simp only [Store.giveBack]
  omega

theorem Store.Balanced.evalFree {t : Store} (h : t.Balanced) (k : PageKey) (v : Nat) : (t.evalFree k v).Balanced := by
  unfold Store.evalFree
  split
  · exact h
  · split
    · exact h.giveBack (Store.find_mem ‹_›).1
    · exact h

/-! ### The account of every cell (R3, R5) -/

/-- The clauses of `CellsAccounted`, of the store and the receive contexts. -/
structure Store.Accounted (t : Store) (cs : List Context) : Prop where
  cells : (t.idleCells ++ t.directory.flatMap fun r => r.chain).Perm (List.range 32768)
  contexts : cs.length = 8
  records : ∀ r ∈ t.directory, r.chain.length = r.bands ∧ (r.state ≠ .receiving → r.bands = r.height) ∧
    (r.state = .receiving → ∃ n < 8, r.stream = some n ∧ Feeds (cs.getD n {}) r)
  fed : ∀ n < 8, (cs.getD n {}).state ≠ .idle →
    ∃ r ∈ t.directory, r.state = .receiving ∧ r.stream = some n ∧ (cs.getD n {}).record = some (r.key, r.version)

theorem cellsAccounted_iff (s : State) : CellsAccounted s ↔ s.store.Accounted s.rx.contexts :=
  ⟨fun ⟨h1, h2, h3, h4⟩ => ⟨h1, h2, h3, h4⟩, fun h => ⟨h.1, h.2, h.3, h.4⟩⟩

theorem Store.Accounted.of_same {t u : Store} {cs : List Context} (h : t.Accounted cs) (hd : u.directory = t.directory)
    (hi : u.idleCells = t.idleCells) : u.Accounted cs := by
  obtain ⟨h1, h2, h3, h4⟩ := h
  exact ⟨by rw [hd, hi]; exact h1, h2, hd ▸ h3, hd ▸ h4⟩

/-- An update of a record's reference count and retain flag (R17, R21). -/
def PageRecord.rebound (r : PageRecord) (refs : Nat) (retain : Bool) : PageRecord :=
  { r with refs := refs, retain := retain }

/-- An update of reference counts and retain flags leaves every cell where it is. -/
theorem Store.Accounted.rebound {t u : Store} {cs : List Context} (h : t.Accounted cs) {n : PageRecord → Nat}
    {b : PageRecord → Bool} (hd : u.directory = t.directory.map fun r => r.rebound (n r) (b r))
    (hi : u.idleCells = t.idleCells) : u.Accounted cs := by
  obtain ⟨h1, h2, h3, h4⟩ := h
  refine ⟨?_, h2, ?_, ?_⟩
  · rw [hd, hi, List.flatMap_map]
    exact h1
  · rw [hd]
    intro r hr
    obtain ⟨q, hq, rfl⟩ := List.mem_map.mp hr
    exact h3 q hq
  · intro m hm hs
    obtain ⟨r, hr, hrest⟩ := h4 m hm hs
    exact ⟨r.rebound (n r) (b r), hd ▸ List.mem_map_of_mem hr, hrest⟩

/-- A record that gives its cells back leaves the others where they are. -/
theorem Store.cells_giveBack {t : Store} (hd : DistinctRecords t.directory) {r : PageRecord} (hr : r ∈ t.directory) :
    ((t.giveBack r).idleCells ++ (t.giveBack r).directory.flatMap fun q => q.chain).Perm
      (t.idleCells ++ t.directory.flatMap fun q => q.chain) := by
  have hp := (hd.perm_filter hr).flatMap_right fun q => q.chain
  simp only [Store.giveBack, List.append_assoc]
  exact (hp.symm.append_left t.idleCells)

/-- A record that is not being received is freed (R22). -/
theorem Store.Accounted.giveBack {t : Store} {cs : List Context} (h : t.Accounted cs)
    (hd : DistinctRecords t.directory) {r : PageRecord} (hr : r ∈ t.directory) (hs : r.state ≠ .receiving) :
    (t.giveBack r).Accounted cs := by
  obtain ⟨h1, h2, h3, h4⟩ := h
  refine ⟨(Store.cells_giveBack hd hr).trans h1, h2, fun q hq => h3 q (List.mem_of_mem_filter hq), ?_⟩
  intro n hn hne
  obtain ⟨q, hq, hqs, hrest⟩ := h4 n hn hne
  refine ⟨q, List.mem_filter.mpr ⟨hq, ?_⟩, hqs, hrest⟩
  simp only [Bool.not_eq_true', ← Bool.not_eq_true, PageRecord.isFor_iff]
  rintro ⟨hk, hv⟩
  exact hs (hd.eq_of_same hq hr hk hv ▸ hqs)

theorem PageRecord.freeable_state {r : PageRecord} (h : r.freeable = true) : r.state ≠ .receiving := by
  intro hs
  simp [PageRecord.freeable, hs] at h

theorem Store.Accounted.evalFree {t : Store} {cs : List Context} (h : t.Accounted cs)
    (hd : DistinctRecords t.directory) (k : PageKey) (v : Nat) : (t.evalFree k v).Accounted cs := by
  unfold Store.evalFree
  split
  · exact h
  · rename_i r hr
    split
    · rename_i hf
      exact h.giveBack hd (Store.find_mem hr).1 (PageRecord.freeable_state (Bool.and_eq_true_iff.mp hf).1)
    · exact h

/-! #### Contexts and the records that they feed -/

theorem getD_set_other {α : Type} (l : List α) {m n : Nat} (x d : α) (h : m ≠ n) : (l.set n x).getD m d = l.getD m d := by
  simp [List.getD_eq_getElem?_getD, List.getElem?_set_ne (Ne.symm h)]

theorem getD_set_same {α : Type} (l : List α) {n : Nat} (x d : α) (h : n < l.length) : (l.set n x).getD n d = x := by
  simp [List.getD_eq_getElem?_getD, h]

/-- The record that a context names, when it is not IDLE, is the RECEIVING record that it feeds. -/
theorem Store.Accounted.fed_record {t : Store} {cs : List Context} (h : t.Accounted cs)
    (hd : DistinctRecords t.directory) {n : Nat} {r : PageRecord} (hs : (cs.getD n {}).state ≠ .idle)
    (hrec : (cs.getD n {}).record = some (r.key, r.version)) (hr : r ∈ t.directory) :
    n < 8 ∧ r.state = .receiving ∧ r.stream = some n ∧ Feeds (cs.getD n {}) r := by
  have hn : n < 8 := by
    by_contra hn
    have : cs.getD n {} = {} := by simp [List.getD_eq_getElem?_getD, h.contexts, Nat.not_lt.mp hn]
    rw [this] at hs
    exact hs rfl
  obtain ⟨q, hq, hqs, hst, hqr⟩ := h.fed n hn hs
  rw [hrec] at hqr
  simp only [Option.some.injEq, Prod.mk.injEq] at hqr
  obtain rfl := hd.eq_of_same hr hq hqr.1 hqr.2
  obtain ⟨m, -, hm, hf⟩ := (h.records r hr).2.2 hqs
  rw [hst] at hm
  obtain rfl := Option.some.inj hm
  exact ⟨hn, hqs, hst, hf⟩

/-- The context found for a stream names a record of the directory: that record is the one it feeds (R8). -/
theorem Store.Accounted.found_record {t : Store} {cs : List Context} (h : t.Accounted cs)
    (hd : DistinctRecords t.directory) {n : Nat} {r : PageRecord} (hs : (cs.getD n {}).state ≠ .idle)
    (hf : ((cs.getD n {}).record.bind fun kv => t.find kv.1 kv.2) = some r) :
    r ∈ t.directory ∧ n < 8 ∧ r.state = .receiving ∧ r.stream = some n ∧ Feeds (cs.getD n {}) r := by
  obtain ⟨kv, hkv, hfind⟩ := Option.bind_eq_some_iff.mp hf
  obtain ⟨hr, hk, hv⟩ := Store.find_mem hfind
  exact ⟨hr, h.fed_record hd hs (by rw [hkv, hk, hv]) hr⟩

/-- A context feeds one RECEIVING record at most. -/
theorem Store.Accounted.stream_unique {t : Store} {cs : List Context} (h : t.Accounted cs)
    (hd : DistinctRecords t.directory) {n : Nat} {q r : PageRecord} (hq : q ∈ t.directory) (hr : r ∈ t.directory)
    (hqs : q.state = .receiving) (hrs : r.state = .receiving) (hqn : q.stream = some n) (hrn : r.stream = some n) :
    q = r := by
  obtain ⟨m, -, hm, hfq⟩ := (h.records q hq).2.2 hqs
  obtain ⟨m', -, hm', hfr⟩ := (h.records r hr).2.2 hrs
  obtain rfl : n = m := Option.some.inj (hqn.symm.trans hm)
  obtain rfl : n = m' := Option.some.inj (hrn.symm.trans hm')
  have := hfq.1.symm.trans hfr.1
  simp only [Option.some.injEq, Prod.mk.injEq] at this
  exact hd.eq_of_same hq hr this.1 this.2

/-- A RECEIVING record is dropped, and its context is IDLE (R18). -/
theorem Store.Accounted.drop {t : Store} {cs : List Context} (h : t.Accounted cs)
    (hd : DistinctRecords t.directory) {r : PageRecord} {n : Nat} (hr : r ∈ t.directory) (hs : r.state = .receiving)
    (hn : r.stream = some n) : (t.giveBack r).Accounted (cs.set n {}) := by
  obtain ⟨h1, h2, h3, h4⟩ := id h
  have keep : ∀ q ∈ t.directory, ¬ (q.key = r.key ∧ q.version = r.version) → q.state = .receiving →
      q.stream ≠ some n := fun q hq hne hqs hqn => by
    obtain rfl := h.stream_unique hd hq hr hqs hs hqn hn
    exact hne ⟨rfl, rfl⟩
  refine ⟨(Store.cells_giveBack hd hr).trans h1, by simpa using h2, ?_, ?_⟩
  · intro q hq
    obtain ⟨hq, hne⟩ := List.mem_filter.mp hq
    simp only [Bool.not_eq_true', ← Bool.not_eq_true, PageRecord.isFor_iff] at hne
    refine ⟨(h3 q hq).1, (h3 q hq).2.1, fun hqs => ?_⟩
    obtain ⟨m, hm, hqm, hf⟩ := (h3 q hq).2.2 hqs
    refine ⟨m, hm, hqm, ?_⟩
    rw [getD_set_other _ _ _ fun e => keep q hq hne hqs (by rw [hqm, e])]
    exact hf
  · intro m hm hne
    by_cases e : m = n
    · subst e
      rw [getD_set_same _ _ _ (by omega)] at hne
      exact absurd rfl hne
    · rw [getD_set_other _ _ _ e] at hne ⊢
      obtain ⟨q, hq, hqs, hqm, hrec⟩ := h4 m hm hne
      refine ⟨q, List.mem_filter.mpr ⟨hq, ?_⟩, hqs, hqm, hrec⟩
      simp only [Bool.not_eq_true', ← Bool.not_eq_true, PageRecord.isFor_iff]
      rintro ⟨hk, hv⟩
      obtain rfl := hd.eq_of_same hq hr hk hv
      exact e (Option.some.inj (hqm.symm.trans hn))

/-- With every cell accounted for, the idle cells are the free ones and those reserved for bands to come (R3). -/
theorem Store.Accounted.idle_length {t : Store} {cs : List Context} (h : t.Accounted cs) (hb : t.Balanced) :
    t.idleCells.length = t.freeCells +
      ((t.directory.filter fun r => decide (r.state = .receiving)).map fun r => r.height - r.bands).sum := by
  have hlen := h.cells.length_eq
  have hrec : ∀ r ∈ t.directory, r.chain.length +
      (if r.state = .receiving then r.height - r.bands else 0) = r.height := by
    intro r hr
    obtain ⟨h1, h2, h3⟩ := h.records r hr
    by_cases hs : r.state = .receiving
    · obtain ⟨n, -, -, -, -, hc⟩ := h3 hs
      rw [if_pos hs]
      omega
    · rw [if_neg hs, h1, h2 hs, Nat.add_zero]
  have hsum : ∀ l : List PageRecord, (∀ r ∈ l, r.chain.length +
      (if r.state = .receiving then r.height - r.bands else 0) = r.height) →
      (l.flatMap fun r => r.chain).length +
        ((l.filter fun r => decide (r.state = .receiving)).map fun r => r.height - r.bands).sum =
          (l.map fun r => r.height).sum := by
    intro l hl
    induction l with
    | nil => rfl
    | cons a l ih =>
      have ih := ih fun r hr => hl r (List.mem_cons_of_mem _ hr)
      have ha := hl a List.mem_cons_self
      by_cases hs : a.state = .receiving <;>
        simp only [List.flatMap_cons, List.length_append, List.filter_cons, hs, if_true, if_false, decide_true,
          decide_false, List.map_cons, List.sum_cons, Bool.false_eq_true] at * <;> omega
  have := hsum _ hrec
  have hb := hb.balance
  simp only [List.length_append, List.length_range] at hlen
  omega

/-- The bands that a RECEIVING record has still to receive each have an idle cell waiting (R3). -/
theorem Store.Accounted.idle_of_receiving {t : Store} {cs : List Context} (h : t.Accounted cs) (hb : t.Balanced)
    {r : PageRecord} (hr : r ∈ t.directory) (hs : r.state = .receiving) (hlt : r.bands < r.height) :
    t.idleCells = t.idleCells.headD 0 :: t.idleCells.tail := by
  have hmem : r.height - r.bands ∈
      (t.directory.filter fun r => decide (r.state = .receiving)).map fun r => r.height - r.bands :=
    List.mem_map.mpr ⟨r, List.mem_filter.mpr ⟨hr, by simpa using hs⟩, rfl⟩
  have := List.single_le_sum (fun _ _ => Nat.zero_le _) _ hmem
  have hl := h.idle_length hb
  cases hi : t.idleCells with
  | nil => simp [hi] at hl; omega
  | cons c l => rfl

/-- A page is opened on an IDLE context (R9). -/
theorem Store.Accounted.open {t u : Store} {cs : List Context} (h : t.Accounted cs) {r : PageRecord} {n : Nat}
    {c : Context} (hn : n < 8) (hidle : (cs.getD n {}).state = .idle) (hchain : r.chain = []) (hbands : r.bands = 0)
    (hs : r.state = .receiving) (hst : r.stream = some n) (hc : c.state = .receiving)
    (hrec : c.record = some (r.key, r.version)) (hnext : c.nextBand = 0) (hheight : 0 < r.height)
    (hd : u.directory = t.directory ++ [r]) (hi : u.idleCells = t.idleCells) : u.Accounted (cs.set n c) := by
  obtain ⟨h1, h2, h3, h4⟩ := h
  refine ⟨by simpa [hd, hi, hchain] using h1, by simpa using h2, ?_, ?_⟩
  · intro q hq
    rw [hd, List.mem_append, List.mem_singleton] at hq
    rcases hq with hq | rfl
    · refine ⟨(h3 q hq).1, (h3 q hq).2.1, fun hqs => ?_⟩
      obtain ⟨m, hm, hqm, hf⟩ := (h3 q hq).2.2 hqs
      refine ⟨m, hm, hqm, ?_⟩
      have : m ≠ n := by
        rintro rfl
        rcases hf.2.2 with hx | hx <;> rw [hidle] at hx <;> exact absurd hx.1 (by simp)
      rw [getD_set_other _ _ _ this]
      exact hf
    · refine ⟨by simp [hchain, hbands], fun hne => absurd hs hne, fun _ => ⟨n, hn, hst, ?_⟩⟩
      rw [getD_set_same _ _ _ (by omega)]
      exact ⟨hrec, by rw [hnext, hbands], .inl ⟨hc, by omega⟩⟩
  · intro m hm hne
    by_cases e : m = n
    · subst e
      rw [getD_set_same _ _ _ (by omega)] at hne ⊢
      exact ⟨r, by simp [hd], hs, hst, hrec⟩
    · rw [getD_set_other _ _ _ e] at hne ⊢
      obtain ⟨q, hq, hrest⟩ := h4 m hm hne
      exact ⟨q, by simp [hd, hq], hrest⟩

/-- An update of one record of a directory of distinct records: the others stay as they are. -/
theorem DistinctRecords.modify_mem {l : List PageRecord} (hd : DistinctRecords l) {r : PageRecord} (hr : r ∈ l)
    (f : PageRecord → PageRecord) {q : PageRecord} :
    q ∈ l.map (fun x => if x.isFor r.key r.version then f x else x) ↔
      q = f r ∨ (q ∈ l ∧ ¬ (q.key = r.key ∧ q.version = r.version)) := by
  constructor
  · intro hq
    obtain ⟨x, hx, rfl⟩ := List.mem_map.mp hq
    by_cases he : x.isFor r.key r.version = true
    · obtain ⟨hk, hv⟩ := PageRecord.isFor_iff.mp he
      rw [if_pos he, hd.eq_of_same hx hr hk hv]
      exact .inl rfl
    · rw [if_neg he]
      exact .inr ⟨hx, fun h => he (PageRecord.isFor_iff.mpr h)⟩
  · rintro (rfl | ⟨hq, hne⟩)
    · exact List.mem_map.mpr ⟨r, hr, by simp [PageRecord.isFor]⟩
    · exact List.mem_map.mpr ⟨q, hq, by rw [if_neg fun h => hne (PageRecord.isFor_iff.mp h)]⟩

/-- The cell chains after an update of one record. -/
theorem DistinctRecords.modify_chains {l : List PageRecord} (hd : DistinctRecords l) {r : PageRecord} (hr : r ∈ l)
    (f : PageRecord → PageRecord) :
    ((l.map fun x => if x.isFor r.key r.version then f x else x).flatMap fun q => q.chain).Perm
      ((f r).chain ++ (l.filter fun q => !q.isFor r.key r.version).flatMap fun q => q.chain) := by
  have hp := ((hd.perm_filter hr).map fun x => if x.isFor r.key r.version then f x else x).flatMap_right
    fun q => q.chain
  have hself : r.isFor r.key r.version = true := PageRecord.isFor_iff.mpr ⟨rfl, rfl⟩
  have hrest : (l.filter fun q => !q.isFor r.key r.version).map
      (fun x => if x.isFor r.key r.version then f x else x) = l.filter fun q => !q.isFor r.key r.version := by
    refine (List.map_congr_left fun x hx => ?_).trans (List.map_id _)
    have := (List.mem_filter.mp hx).2
    simp only [Bool.not_eq_true'] at this
    simp [this]
  simpa only [List.map_cons, hself, if_true, hrest, List.flatMap_cons] using hp

/-- A RECEIVING record and its context go on together, to the next band or to completion: the cells of the chain and the
idle cells are those before, and the record stays fed or becomes whole. -/
theorem Store.Accounted.advance {t u : Store} {cs : List Context} (h : t.Accounted cs)
    (hd : DistinctRecords t.directory) {r : PageRecord} {n : Nat} {c : Context} {f : PageRecord → PageRecord}
    (hr : r ∈ t.directory) (hs : r.state = .receiving) (hst : r.stream = some n)
    (hdir : u.directory = t.directory.map fun x => if x.isFor r.key r.version then f x else x)
    (hcells : (u.idleCells ++ (f r).chain).Perm (t.idleCells ++ r.chain))
    (hlen : (f r).chain.length = (f r).bands)
    (hgoes : ((f r).state = .receiving ∧ (f r).stream = some n ∧ Feeds c (f r)) ∨
      ((f r).state ≠ .receiving ∧ (f r).bands = (f r).height ∧ c.state = .idle)) :
    u.Accounted (cs.set n c) := by
  obtain ⟨h1, h2, h3, h4⟩ := id h
  obtain ⟨n', hn, hst', -⟩ := (h3 r hr).2.2 hs
  obtain rfl : n' = n := Option.some.inj (hst'.symm.trans hst)
  have hother : ∀ q ∈ t.directory, ¬ (q.key = r.key ∧ q.version = r.version) → q.state = .receiving →
      q.stream ≠ some n' := fun q hq hne hqs hqn => by
    obtain rfl := h.stream_unique hd hq hr hqs hs hqn hst
    exact hne ⟨rfl, rfl⟩
  refine ⟨?_, by simpa using h2, ?_, ?_⟩
  · refine List.Perm.trans ?_ h1
    rw [hdir]
    refine ((hd.modify_chains hr f).append_left _).trans ?_
    refine List.Perm.trans ?_ (((hd.perm_filter hr).flatMap_right fun q => q.chain).symm.append_left _)
    simp only [List.flatMap_cons, ← List.append_assoc]
    exact hcells.append_right _
  · intro q hq
    rw [hdir, hd.modify_mem hr] at hq
    rcases hq with rfl | ⟨hq, hne⟩
    · refine ⟨hlen, ?_, ?_⟩ <;> intro hx <;> rcases hgoes with ⟨hg, hstr, hfeeds⟩ | ⟨hg, hwhole, -⟩
      · exact absurd hg hx
      · exact hwhole
      · exact ⟨n', hn, hstr, by rw [getD_set_same _ _ _ (by omega)]; exact hfeeds⟩
      · exact absurd hx hg
    · refine ⟨(h3 q hq).1, (h3 q hq).2.1, fun hqs => ?_⟩
      obtain ⟨m, hm, hqm, hf⟩ := (h3 q hq).2.2 hqs
      refine ⟨m, hm, hqm, ?_⟩
      rw [getD_set_other _ _ _ fun e => hother q hq hne hqs (by rw [hqm, e])]
      exact hf
  · intro m hm hne
    by_cases e : m = n'
    · subst e
      rw [getD_set_same _ _ _ (by omega)] at hne ⊢
      rcases hgoes with ⟨hg, hstr, hfeeds⟩ | ⟨-, -, hidle⟩
      · exact ⟨f r, hdir ▸ (hd.modify_mem hr f).mpr (.inl rfl), hg, hstr, hfeeds.1⟩
      · exact absurd hidle hne
    · rw [getD_set_other _ _ _ e] at hne ⊢
      obtain ⟨q, hq, hqs, hqm, hrec⟩ := h4 m hm hne
      refine ⟨q, hdir ▸ (hd.modify_mem hr f).mpr (.inr ⟨hq, ?_⟩), hqs, hqm, hrec⟩
      rintro ⟨hk, hv⟩
      obtain rfl := hd.eq_of_same hq hr hk hv
      exact e (Option.some.inj (hqm.symm.trans hst))

end Sys2Proof.Machine
end


-- ==== Sys2Proof/Proofs/Pages.lean ====
section
/-! PROOF. The operations of the Raster Store Controller and the Receive Context Unit keep the cell pool balanced and every
cell accounted for. -/

namespace Sys2Proof.Machine

/-! ### Reference counts (R21, R22) -/

/-- The store `u` is reached from `t` by updates of reference counts and retain flags, by freeing evaluations, and by
changes of what is not the directory or the cell pool. -/
inductive Store.Rebound (t : Store) : Store → Prop
  | refl : Rebound t t
  | same {u w : Store} (h : Rebound t u) (hd : w.directory = u.directory) (hi : w.idleCells = u.idleCells)
      (hf : w.freeCells = u.freeCells) : Rebound t w
  | counts {u w : Store} (h : Rebound t u) (n : PageRecord → Nat) (b : PageRecord → Bool)
      (hd : w.directory = u.directory.map fun r => r.rebound (n r) (b r)) (hi : w.idleCells = u.idleCells)
      (hf : w.freeCells = u.freeCells) : Rebound t w
  | freed {u : Store} (h : Rebound t u) (k : PageKey) (v : Nat) : Rebound t (u.evalFree k v)

namespace Store.Rebound

theorem trans {t u w : Store} (h : Rebound t u) (h' : Rebound u w) : Rebound t w := by
  induction h' with
  | refl => exact h
  | same _ hd hi hf ih => exact ih.same hd hi hf
  | counts _ n b hd hi hf ih => exact ih.counts n b hd hi hf
  | freed _ k v ih => exact ih.freed k v

theorem balanced {t u : Store} (h : Rebound t u) (ht : t.Balanced) : u.Balanced := by
  induction h with
  | refl => exact ht
  | same _ hd _ hf ih => exact ih.of_same hd hf
  | counts _ n b hd _ hf ih =>
    exact ih.map (f := fun r => r.rebound (n r) (b r)) (fun _ => rfl) (fun _ => rfl) (fun _ => rfl) hd hf
  | freed _ k v ih => exact ih.evalFree k v

theorem accounted {t u : Store} (h : Rebound t u) {cs : List Context} (ht : t.Balanced) (hc : t.Accounted cs) :
    u.Accounted cs := by
  induction h with
  | refl => exact hc
  | same _ hd hi _ ih => exact ih.of_same hd hi
  | counts _ n b hd hi _ ih => exact ih.rebound hd hi
  | freed h k v ih => exact ih.evalFree (h.balanced ht).distinct k v

theorem modify {t u : Store} (h : Rebound t u) (k : PageKey) (v : Nat) {f : PageRecord → PageRecord}
    (n : PageRecord → Nat) (b : PageRecord → Bool) (hf : ∀ r, f r = r.rebound (n r) (b r)) :
    Rebound t (u.modify k v f) := by
  refine h.counts (fun r => if r.isFor k v then n r else r.refs) (fun r => if r.isFor k v then b r else r.retain)
    (List.map_congr_left fun r _ => ?_) rfl rfl
  split
  · exact hf r
  · rfl

theorem addRef {t u : Store} (h : Rebound t u) (k : PageKey) (v : Nat) : Rebound t (u.addRef k v) :=
  h.modify k v (fun r => r.refs + 1) (fun r => r.retain) fun _ => rfl

theorem dropRef {t u : Store} (h : Rebound t u) (k : PageKey) (v : Nat) : Rebound t (u.dropRef k v) :=
  (h.modify k v (fun r => r.refs - 1) (fun r => r.retain) fun _ => rfl).freed k v

theorem addRefs {t u : Store} (h : Rebound t u) (bs : List Binding) : Rebound t (u.addRefs bs) := by
  induction bs generalizing u with
  | nil => exact h
  | cons b bs ih =>
    cases b with
    | bound k v => exact ih (h.addRef k v)
    | waiting => exact ih h
    | blank => exact ih h

theorem dropRefs {t u : Store} (h : Rebound t u) (bs : List Binding) : Rebound t (u.dropRefs bs) := by
  induction bs generalizing u with
  | nil => exact h
  | cons b bs ih =>
    cases b with
    | bound k v => exact ih (h.dropRef k v)
    | waiting => exact ih h
    | blank => exact ih h

theorem rebindPosition {t u : Store} (h : Rebound t u) (k : PageKey) (v : Nat) (q : Position) (b : Binding) :
    Rebound t (Machine.rebindPosition k v q b u).2 := by
  unfold Machine.rebindPosition
  split
  · cases b with
    | bound k' w =>
      dsimp only
      split
      · exact (h.dropRef k w).addRef k v
      · exact h
    | waiting => exact h.addRef k v
    | blank => exact h
  · exact h

theorem rebindPositions {t u : Store} (h : Rebound t u) (k : PageKey) (v : Nat) (qs : List Position)
    (bs : List Binding) : Rebound t (Machine.rebindPositions k v qs bs u).2 := by
  induction qs generalizing bs u with
  | nil => exact h
  | cons q qs ih =>
    cases bs with
    | nil => exact h
    | cons b bs => exact ih (h.rebindPosition k v q b) bs

end Store.Rebound

/-! ### The two invariants together -/

/-- The cell pool is balanced and, when `full` is asked for, every cell is accounted for: the two invariants are shown in
one pass, the second where the first is not enough. -/
structure PagesSound (full : Prop) (s : State) : Prop where
  balanced : s.store.Balanced
  accounted : full → s.store.Accounted s.rx.contexts

variable {full : Prop} {s t : State}

theorem PagesSound.distinct (h : PagesSound full s) : DistinctRecords s.store.directory := h.balanced.distinct

theorem PagesSound.rebound (h : PagesSound full s) (hx : t.rx.contexts = s.rx.contexts)
    (hr : s.store.Rebound t.store) : PagesSound full t :=
  ⟨hr.balanced h.balanced, fun hf => hx ▸ hr.accounted h.balanced (h.accounted hf)⟩

theorem PagesSound.of_same (h : PagesSound full s) (hd : t.store.directory = s.store.directory)
    (hi : t.store.idleCells = s.store.idleCells) (hf : t.store.freeCells = s.store.freeCells)
    (hx : t.rx.contexts = s.rx.contexts) : PagesSound full t :=
  h.rebound hx (Store.Rebound.refl.same hd hi hf)

/-! ### Drops (R18) -/

theorem State.abandonWrite_same (k : PageKey) (v : Nat) (s : State) :
    (s.abandonWrite k v).store.directory = s.store.directory ∧
    (s.abandonWrite k v).store.idleCells = s.store.idleCells ∧
    (s.abandonWrite k v).store.freeCells = s.store.freeCells ∧
    (s.abandonWrite k v).store.notices = s.store.notices ∧
    (s.abandonWrite k v).rx.contexts = s.rx.contexts := by
  unfold State.abandonWrite
  repeat' split
  all_goals simp

/-- What a drop makes of the directory, the cell pool and the contexts. -/
theorem State.discardRecord_pages (r : PageRecord) (s : State) :
    (s.discardRecord r).store.directory = (s.store.giveBack r).directory ∧
    (s.discardRecord r).store.idleCells = (s.store.giveBack r).idleCells ∧
    (s.discardRecord r).store.freeCells = (s.store.giveBack r).freeCells ∧
    (s.discardRecord r).store.notices = s.store.notices ∧
    (s.discardRecord r).rx.contexts = match r.stream with
      | none => s.rx.contexts
      | some n => s.rx.contexts.set n {} := by
  unfold State.discardRecord
  cases r.stream <;> simp [Store.giveBack, State.abandonWrite_same, State.setContext]

theorem PagesSound.discardRecord (h : PagesSound full s) {r : PageRecord} (hr : r ∈ s.store.directory)
    (hs : full → r.state = .receiving) : PagesSound full (s.discardRecord r) := by
  obtain ⟨hd, hi, hf, -, hx⟩ := s.discardRecord_pages r
  refine ⟨(h.balanced.giveBack hr).of_same hd hf, fun hfull => ?_⟩
  obtain ⟨n, -, hn, -⟩ := ((h.accounted hfull).records r hr).2.2 (hs hfull)
  rw [hn] at hx
  rw [hx]
  exact ((h.accounted hfull).drop h.distinct hr (hs hfull) hn).of_same hd hi

theorem PagesSound.dropRecord (h : PagesSound full s) {r : PageRecord} (hr : r ∈ s.store.directory)
    (hs : full → r.state = .receiving) (c : DropCause) (o : Option Nat) (v : Nat) :
    PagesSound full (s.dropRecord r c o v) :=
  (h.discardRecord hr hs).of_same (by simp [State.dropRecord]) (by simp [State.dropRecord]) (by simp [State.dropRecord])
    (by simp [State.dropRecord])

/-- A record stays in the directory while another one is dropped. -/
theorem State.mem_discardRecord {r q : PageRecord} (hq : q ∈ s.store.directory)
    (hne : ¬ (r.key = q.key ∧ r.version = q.version)) : q ∈ (s.discardRecord r).store.directory := by
  rw [(s.discardRecord_pages r).1]
  refine List.mem_filter.mpr ⟨hq, ?_⟩
  simp only [Bool.not_eq_true', ← Bool.not_eq_true, PageRecord.isFor_iff]
  exact fun ⟨hk, hv⟩ => hne ⟨hk.symm, hv.symm⟩

theorem PagesSound.discardAll {l : List PageRecord} (h : PagesSound full s) (hd : DistinctRecords l)
    (hl : ∀ r ∈ l, r ∈ s.store.directory ∧ r.state = .receiving) : PagesSound full (s.discardAll l) := by
  induction l generalizing s with
  | nil => exact h
  | cons r l ih =>
    obtain ⟨hr, hd⟩ := List.pairwise_cons.mp hd
    obtain ⟨hmem, hs⟩ := hl r List.mem_cons_self
    exact ih (h.discardRecord hmem fun _ => hs) hd fun q hq =>
      ⟨State.mem_discardRecord (hl q (List.mem_cons_of_mem _ hq)).1 (hr q hq), (hl q (List.mem_cons_of_mem _ hq)).2⟩

theorem PagesSound.dropOvertaken {l : List PageRecord} (h : PagesSound full s) (v : Nat) (hd : DistinctRecords l)
    (hl : ∀ r ∈ l, r ∈ s.store.directory ∧ r.state = .receiving) : PagesSound full (s.dropOvertaken v l) := by
  induction l generalizing s with
  | nil => exact h
  | cons r l ih =>
    obtain ⟨hr, hd⟩ := List.pairwise_cons.mp hd
    obtain ⟨hmem, hs⟩ := hl r List.mem_cons_self
    refine ih (h.dropRecord hmem (fun _ => hs) _ _ _) hd fun q hq => ⟨?_, (hl q (List.mem_cons_of_mem _ hq)).2⟩
    simpa [State.dropRecord] using State.mem_discardRecord (hl q (List.mem_cons_of_mem _ hq)).1 (hr q hq)

/-! ### Bands (R11 to R13, R189) -/

/-- What the Receive Context Unit makes of a band: nothing of the pages, a drop of the record that the context names, or
the next band accepted (Table 1.3). -/
theorem State.takeBand_cases (f : BandFrame) (s : State) :
    ((s.takeBand f).store = s.store ∧ (s.takeBand f).rx = s.rx) ∨
    ∃ r, (s.context f.tag).state ≠ .idle ∧
      ((s.context f.tag).record.bind fun kv => s.store.find kv.1 kv.2) = some r ∧
      ((∃ c o, s.takeBand f = s.dropRecord r c o 0) ∨
        ((s.context f.tag).state = .receiving ∧ s.takeBand f = s.acceptBand f (s.context f.tag) r)) := by
  unfold State.takeBand
  dsimp only
  split
  · exact .inl (by simp)
  · rename_i r hr
    split
    · exact .inl (by simp)
    · rename_i hne
      split
      · exact .inl ⟨rfl, rfl⟩
      · split
        · exact .inr ⟨r, hne, hr, .inl ⟨_, _, rfl⟩⟩
        · rename_i hgap
          split
          · exact .inr ⟨r, hne, hr, .inl ⟨_, _, rfl⟩⟩
          · refine .inr ⟨r, hne, hr, .inr ⟨?_, rfl⟩⟩
            cases hs : (s.context f.tag).state with
            | idle => exact absurd hs hne
            | receiving => rfl
            | completing => exact absurd (.inr hs) hgap

theorem PagesSound.acceptBand (h : PagesSound full s) (f : BandFrame) {r : PageRecord} (hr : r ∈ s.store.directory)
    (hc : full → r.state = .receiving ∧ r.stream = some f.tag ∧ Feeds (s.context f.tag) r)
    (hs : (s.context f.tag).state = .receiving) : PagesSound full (s.acceptBand f (s.context f.tag) r) := by
  refine ⟨?_, fun hfull => ?_⟩
  · refine (h.balanced.modify r.key r.version (f := fun q =>
      { q with chain := q.chain ++ [s.store.idleCells.headD 0], bands := q.bands + 1 })
      (fun _ => rfl) (fun _ => rfl) fun _ => rfl).of_same ?_ ?_ <;> simp [State.acceptBand, Store.modify]
  · obtain ⟨hrs, hst, hrec, hnext, hfeeds⟩ := hc hfull
    have hlt : r.bands < r.height := by
      rcases hfeeds with hf | hf
      · exact hf.2
      · rw [hs] at hf
        exact absurd hf.1 (by simp)
    have hidle := (h.accounted hfull).idle_of_receiving h.balanced hr hrs hlt
    have hx : (s.acceptBand f (s.context f.tag) r).rx.contexts = s.rx.contexts.set f.tag
        (if (s.context f.tag).nextBand + 1 < r.height then
          { s.context f.tag with
            nextBand := (s.context f.tag).nextBand + 1,
            deadline := some (deadlineAfter s.now s.link.timing.receive) }
        else { s.context f.tag with
            state := .completing, nextBand := (s.context f.tag).nextBand + 1, deadline := none }) := by
      simp [State.acceptBand, State.setContext]
    rw [hx]
    refine (h.accounted hfull).advance h.distinct hr hrs hst
      (f := fun q => { q with chain := q.chain ++ [s.store.idleCells.headD 0], bands := q.bands + 1 })
      (by simp [State.acceptBand, Store.modify]) ?_ ?_ (.inl ⟨hrs, hst, ?_⟩)
    · have hi : (s.acceptBand f (s.context f.tag) r).store.idleCells = s.store.idleCells.tail := by
        simp [State.acceptBand]
      rw [hi]
      conv_rhs => rw [hidle]
      rw [← List.append_assoc, List.cons_append]
      exact List.perm_append_singleton _ _
    · simpa using ((h.accounted hfull).records r hr).1
    · split
      · exact ⟨hrec, by simp [hnext], .inl ⟨hs, show r.bands + 1 < r.height by omega⟩⟩
      · exact ⟨hrec, by simp [hnext], .inr ⟨rfl, show r.bands + 1 = r.height by omega⟩⟩

theorem PagesSound.takeBand (h : PagesSound full s) (f : BandFrame) : PagesSound full (s.takeBand f) := by
  rcases s.takeBand_cases f with ⟨hst, hx⟩ | ⟨r, hne, hfound, hcase⟩
  · exact h.of_same (by rw [hst]) (by rw [hst]) (by rw [hst]) (by rw [hx])
  · have hr : r ∈ s.store.directory := by
      obtain ⟨kv, -, hf⟩ := Option.bind_eq_some_iff.mp hfound
      exact (Store.find_mem hf).1
    have hfed := fun hfull => (h.accounted hfull).found_record h.distinct hne hfound
    rcases hcase with ⟨c, o, heq⟩ | ⟨hs, heq⟩ <;> rw [heq]
    · exact h.dropRecord hr (fun hfull => (hfed hfull).2.2.1) c o 0
    · exact h.acceptBand f hr (fun hfull => (hfed hfull).2.2) hs

theorem PagesSound.passHeld (h : PagesSound full s) : PagesSound full s.passHeld := by
  unfold State.passHeld
  split
  · exact PagesSound.takeBand (s := { s with link := { s.link with holding := none } })
      (h.of_same rfl rfl rfl rfl) _
  · exact h

theorem PagesSound.bandArrives (h : PagesSound full s) (f : BandFrame) : PagesSound full (s.bandArrives f) := by
  unfold State.bandArrives
  split
  · exact h.of_same rfl rfl rfl rfl
  · exact h.takeBand f
  · exact h.of_same rfl rfl rfl rfl

/-! ### Completion (R14, R19) -/

/-- Records that are not being received change their state among CURRENT and SUPERSEDED (R19). -/
theorem Store.Accounted.restate {t u : Store} {cs : List Context} (h : t.Accounted cs)
    {f : PageRecord → PageRecord} (hd : u.directory = t.directory.map f) (hi : u.idleCells = t.idleCells)
    (hkey : ∀ r, (f r).key = r.key) (hversion : ∀ r, (f r).version = r.version) (hchain : ∀ r, (f r).chain = r.chain)
    (hbands : ∀ r, (f r).bands = r.bands) (hheight : ∀ r, (f r).height = r.height)
    (hstream : ∀ r, (f r).stream = r.stream)
    (hstate : ∀ r ∈ t.directory, ((f r).state = .receiving ↔ r.state = .receiving)) : u.Accounted cs := by
  obtain ⟨h1, h2, h3, h4⟩ := h
  refine ⟨?_, h2, ?_, ?_⟩
  · rw [hd, hi, List.flatMap_map]
    simpa only [hchain] using h1
  · rw [hd]
    intro r hr
    obtain ⟨q, hq, rfl⟩ := List.mem_map.mp hr
    obtain ⟨hlen, hwhole, hfed⟩ := h3 q hq
    have hfeeds : ∀ c, Feeds c (f q) ↔ Feeds c q := fun c => by simp only [Feeds, hkey, hversion, hbands, hheight]
    simp only [hchain, hbands, hheight, hstream, hfeeds, ne_eq, hstate q hq]
    exact ⟨hlen, hwhole, hfed⟩
  · intro m hm hs
    obtain ⟨r, hr, hrs, hrest⟩ := h4 m hm hs
    refine ⟨f r, hd ▸ List.mem_map_of_mem hr, (hstate r hr).mpr hrs, ?_⟩
    simpa only [hkey, hversion, hstream] using hrest

/-- The record of a completing context becomes CURRENT, the context IDLE (R19 step 1). -/
theorem PagesSound.makeCurrent (h : PagesSound full s) {k : PageKey} {v n : Nat}
    (hc : (s.context n).state = .completing) (hrec : (s.context n).record = some (k, v)) :
    PagesSound full (State.setContext n {} { s with
      store := s.store.modify k v fun r => { r with state := .current, stream := none } }) := by
  refine ⟨h.balanced.modify k v (fun _ => rfl) (fun _ => rfl) fun _ => rfl, fun hfull => ?_⟩
  have ha := h.accounted hfull
  have hne : (s.context n).state ≠ .idle := by rw [hc]; simp
  have hn : n < 8 := by
    by_contra hn
    have : s.context n = {} := by simp [State.context, List.getD_eq_getElem?_getD, ha.contexts, Nat.not_lt.mp hn]
    rw [this] at hne
    exact hne rfl
  obtain ⟨r, hr, hrs, hst, hr'⟩ := ha.fed n hn hne
  obtain ⟨-, -, -, -, -, hfeeds⟩ := ha.fed_record h.distinct hne hr' hr
  have hkv : r.key = k ∧ r.version = v := by
    have : some (r.key, r.version) = some (k, v) := hr'.symm.trans hrec
    simpa using this
  obtain ⟨rfl, rfl⟩ := hkv
  refine ha.advance h.distinct hr hrs hst (f := fun r => { r with state := .current, stream := none }) rfl
    (List.Perm.refl _) (ha.records r hr).1 (.inr ⟨by simp, ?_, rfl⟩)
  rcases hfeeds with hf | hf
  · exact absurd (hc.symm.trans hf.1) (by simp)
  · exact hf.2

/-- A record that was CURRENT becomes SUPERSEDED and is examined for freeing (R19 step 2). -/
theorem PagesSound.supersede (h : PagesSound full s) {k : PageKey} {w : Nat}
    (hs : ∀ r ∈ s.store.directory, r.isFor k w = true → r.state ≠ .receiving) :
    PagesSound full { s with
      store := (s.store.modify k w fun r => { r with state := .superseded }).evalFree k w } := by
  have hb := h.balanced.modify k w (f := fun r => { r with state := .superseded }) (fun _ => rfl) (fun _ => rfl)
    fun _ => rfl
  refine ⟨hb.evalFree k w, fun hfull => ?_⟩
  have ha : (s.store.modify k w fun r => { r with state := .superseded }).Accounted s.rx.contexts := by
    refine (h.accounted hfull).restate (f := fun r => if r.isFor k w then { r with state := .superseded } else r) rfl rfl
      ?_ ?_ ?_ ?_ ?_ ?_ ?_
    case refine_7 =>
      intro r hr
      by_cases hk : r.isFor k w = true
      · simp [hk, hs r hr hk]
      · simp [hk]
    all_goals intro r; split <;> rfl
  exact ha.evalFree hb.distinct k w

theorem Store.current_mem {t : Store} {k : PageKey} {r : PageRecord} (h : t.current k = some r) :
    r ∈ t.directory ∧ r.key = k ∧ r.state = .current :=
  ⟨List.mem_of_find?_eq_some h, by
    simpa using List.find?_some (p := fun q : PageRecord => decide (q.key = k) && decide (q.state = .current))
      (l := t.directory) h⟩

theorem PagesSound.completePage (h : PagesSound full s) {k : PageKey} {v n : Nat}
    (hc : (s.context n).state = .completing) (hrec : (s.context n).record = some (k, v)) :
    PagesSound full (s.completePage k v n) := by
  have overtake : ∀ u : State, PagesSound full u → ∀ m, PagesSound full { u.dropOvertaken v (u.store.overtaken k v) with
      store := { (u.dropOvertaken v (u.store.overtaken k v)).store with notices := m } } := fun u hu m =>
    (hu.dropOvertaken v (hu.distinct.filter _) fun r hr => by
      obtain ⟨hr, hp⟩ := List.mem_filter.mp hr
      simp only [Bool.and_eq_true, decide_eq_true_eq] at hp
      exact ⟨hr, hp.1.2⟩).of_same rfl rfl rfl rfl
  have hcur := h.makeCurrent hc hrec
  unfold State.completePage
  cases ho : s.store.current k with
  | none => exact overtake _ hcur _
  | some o =>
    obtain ⟨hom, hok, hos⟩ := Store.current_mem ho
    refine overtake _ (hcur.supersede fun r hr hfor => ?_) _
    obtain ⟨q, hq, rfl⟩ := List.mem_map.mp (show r ∈ s.store.directory.map _ from hr)
    by_cases hq' : q.isFor k v = true
    · simp [hq']
    · rw [if_neg hq'] at hfor ⊢
      obtain ⟨hk, hv⟩ := PageRecord.isFor_iff.mp hfor
      rw [h.distinct.eq_of_same hq hom (hk.trans hok.symm) hv, hos]
      simp

theorem PagesSound.bandWritten (h : PagesSound full s) (j : WriteJob) : PagesSound full (s.bandWritten j) := by
  have h' : PagesSound full { s with rx := { s.rx with writer := none } } := h.of_same rfl rfl rfl rfl
  unfold State.bandWritten
  dsimp only
  split
  · rename_i hc
    exact (h'.completePage hc.1 hc.2).passHeld
  · exact h'.passHeld

theorem PagesSound.lineWritten (h : PagesSound full s) (j : WriteJob) : PagesSound full (s.lineWritten j) := by
  unfold State.lineWritten
  dsimp only
  split
  · refine PagesSound.bandWritten ?_ j
    exact h.of_same rfl rfl rfl rfl
  · exact h.of_same rfl rfl rfl rfl

/-! ### The port, the deadline and the frames -/

theorem State.putComposer_same (i : Imager) (r : Composer × Bool) (s : State) :
    (s.putComposer i r).store.directory = s.store.directory ∧
    (s.putComposer i r).store.idleCells = s.store.idleCells ∧
    (s.putComposer i r).store.freeCells = s.store.freeCells := by
  unfold State.putComposer
  dsimp only
  split <;> simp

theorem PagesSound.transferEnds (h : PagesSound full s) (t : Transfer) : PagesSound full (s.transferEnds t) := by
  have hidle : PagesSound full { s with store := { s.store with port := { s.store.port with busy := none } } } :=
    h.of_same rfl rfl rfl rfl
  have segment : ∀ (i : Imager) (u : State), PagesSound full u → PagesSound full (u.segmentRead i) := fun i u hu => by
    obtain ⟨hd, hi, hf⟩ := u.putComposer_same i ((u.channel i).composer.transferEnd u.store.memory)
    exact hu.of_same hd hi hf (by simp)
  have taken : ∀ u : State, PagesSound full u → PagesSound full (u.takeTransfer t) := fun u hu => by
    unfold State.takeTransfer
    split
    · exact hu
    · split
      · split
        · exact hu
        · exact hu.lineWritten _
      · exact segment .a u hu
      · exact segment .b u hu
  exact (taken _ hidle).of_same rfl rfl rfl rfl

theorem PagesSound.receiveExpires (h : PagesSound full s) (n : Nat) : PagesSound full (s.receiveExpires n) := by
  unfold State.receiveExpires
  dsimp only
  split
  · rename_i hc
    have hne : (s.context n).state ≠ .idle := by rw [hc.1]; simp
    split
    · exact h
    · rename_i r hr
      obtain ⟨kv, -, hf⟩ := Option.bind_eq_some_iff.mp hr
      exact (h.dropRecord (Store.find_mem hf).1
        (fun hfull => ((h.accounted hfull).found_record h.distinct hne hr).2.2.1) _ _ _).passHeld
  · exact h

theorem PagesSound.frameArrives (h : PagesSound full s) (bs : List Byte) : PagesSound full (s.frameArrives bs) := by
  have same : ∀ t : State, t.store = s.store → t.rx = s.rx → PagesSound full t := fun t hs hx =>
    h.of_same (by rw [hs]) (by rw [hs]) (by rw [hs]) (by rw [hx])
  unfold State.frameArrives
  split
  · exact same _ rfl rfl
  · split
    · exact same _ rfl rfl
    · split
      · exact h.bandArrives _
      · unfold State.requestArrives
        repeat' split
        all_goals exact same _ (by simp) (by simp)

/-! ### The requests of chapter 1, and RESTART (R25) -/

theorem PagesSound.pageOpen (h : PagesSound full s) (n : Nat) (k : PageKey) (v width height retain : Nat) :
    PagesSound full (applyPageOpen n k v width height retain s).state := by
  unfold applyPageOpen
  split
  · exact h
  rename_i hrange
  split
  · exact h
  rename_i hidle
  split
  · exact h
  rename_i hstale
  split
  · exact h
  rename_i hroom
  split
  · exact h
  rename_i hfree
  simp only [Bool.not_eq_true', Bool.not_eq_false, Bool.and_eq_true, decide_eq_true_eq] at hrange
  obtain ⟨⟨⟨⟨hn, -⟩, hh⟩, -⟩, -⟩ := hrange
  simp only [List.any_eq_true, Bool.and_eq_true, decide_eq_true_eq, not_exists, not_and, Nat.not_le] at hstale
  have hb := h.balanced
  refine ⟨⟨?_, ?_, ?_⟩, fun hfull => ?_⟩
  · refine List.pairwise_append.mpr ⟨hb.distinct, List.pairwise_singleton _ _, fun q hq r hr => ?_⟩
    obtain rfl := List.mem_singleton.mp hr
    rintro ⟨hk, hv⟩
    exact absurd (hstale q hq hk) (by dsimp only at hv; omega)
  · have : s.store.directory.length < 256 := Nat.not_le.mp hroom
    simpa [State.setContext] using this
  · have := hb.balance
    simp only [accept_state, State.setContext, List.map_append, List.sum_append, List.map_cons, List.map_nil,
      List.sum_cons, List.sum_nil]
    omega
  · exact (h.accounted hfull).open (by omega) (not_not.mp hidle) rfl rfl rfl rfl rfl rfl rfl (by dsimp only; omega) rfl rfl

theorem PagesSound.pageAbandon (h : PagesSound full s) (n : Nat) : PagesSound full (applyPageAbandon n s).state := by
  unfold applyPageAbandon
  split
  · exact h
  · split
    · exact h
    · rename_i hne
      split
      · exact h
      · rename_i r hr
        obtain ⟨kv, -, hf⟩ := Option.bind_eq_some_iff.mp hr
        exact (h.dropRecord (Store.find_mem hf).1
          (fun hfull => ((h.accounted hfull).found_record h.distinct hne hr).2.2.1) _ _ _).passHeld

theorem PagesSound.pageRelease (h : PagesSound full s) (k : PageKey) (v : Nat) :
    PagesSound full (applyPageRelease k v s).state := by
  unfold applyPageRelease
  split
  · exact h
  · split
    · exact h
    · exact h.rebound rfl ((Store.Rebound.refl.modify k v (fun r => r.refs) (fun _ => false) fun _ => rfl).freed k v)

/-- The directory after the drop of several records. -/
theorem State.discardAll_directory (l : List PageRecord) (s : State) :
    (s.discardAll l).store.directory =
      s.store.directory.filter fun q => l.all fun r => !q.isFor r.key r.version := by
  induction l generalizing s with
  | nil => simp [State.discardAll]
  | cons r l ih =>
    rw [State.discardAll, ih, (s.discardRecord_pages r).1, Store.giveBack, List.filter_filter]
    simp only [List.all_cons, Bool.and_comm]

theorem Store.Rebound.evalAll {t u : Store} (h : t.Rebound u) (l : List PageRecord) : t.Rebound (u.evalAll l) := by
  induction l generalizing u with
  | nil => exact h
  | cons r l ih => exact ih (h.freed r.key r.version)

/-- With no record being received, the contexts may all be IDLE. -/
theorem Store.Accounted.all_idle {t : Store} {cs : List Context} (h : t.Accounted cs)
    (hs : ∀ r ∈ t.directory, r.state ≠ .receiving) : t.Accounted (List.replicate 8 {}) := by
  refine ⟨h.cells, rfl, fun r hr => ⟨(h.records r hr).1, (h.records r hr).2.1, fun hr' => absurd hr' (hs r hr)⟩, ?_⟩
  intro n _ hne
  have : (List.replicate 8 ({} : Context)).getD n {} = {} := by
    rw [List.getD_eq_getElem?_getD, List.getElem?_replicate]
    split <;> rfl
  rw [this] at hne
  exact absurd rfl hne

theorem PagesSound.restartPages (h : PagesSound full s) : PagesSound full s.restartPages := by
  unfold State.restartPages
  dsimp only
  generalize hu : State.withdrawPort .b _ = u
  have h1 : PagesSound full u := by
    subst hu
    exact h.of_same (by simp) (by simp) (by simp) (by simp)
  generalize hl : u.store.directory.filter (fun r => decide (r.state = .receiving)) = l
  have h2 : PagesSound full (u.discardAll l) := by
    subst hl
    exact h1.discardAll (h1.distinct.filter _) fun r hr => by simpa using hr
  have hnone : ∀ r ∈ (u.discardAll l).store.directory, r.state ≠ .receiving := by
    intro r hr hs
    rw [State.discardAll_directory] at hr
    obtain ⟨hr, hall⟩ := List.mem_filter.mp hr
    have := List.all_eq_true.mp hall r (hl ▸ List.mem_filter.mpr ⟨hr, by simpa using hs⟩)
    simp [PageRecord.isFor] at this
  have h3 : PagesSound full { u.discardAll l with
      rx := { (u.discardAll l).rx with contexts := List.replicate 8 {} } } :=
    ⟨h2.balanced, fun hfull => (h2.accounted hfull).all_idle hnone⟩
  refine h3.rebound rfl (Store.Rebound.evalAll ?_ _)
  exact .counts .refl (fun _ => 0) (fun r => r.retain) rfl rfl rfl

end Sys2Proof.Machine
end


-- ==== Sys2Proof/Proofs/Builds.lean ====
section
/-! PROOF. The plate tables (R34, R36, R42, R57): what creating, changing, queueing and freeing a build record, the
build-need check and the pending list do to their invariant. -/

namespace Sys2Proof.Machine

/-! ### Lists -/

theorem insertBefore_perm (f : Nat → Bool) (n : Nat) (l : List Nat) : (insertBefore f n l).Perm (n :: l) := by
  induction l with
  | nil => exact .refl _
  | cons a l ih =>
    unfold insertBefore
    split
    · exact .refl _
    · exact (ih.cons a).trans (.swap n a l)

/-- An insertion by rank keeps a list in ascending rank (R57). -/
theorem insertBefore_ordered {g : Nat → Nat} {f : Nat → Bool} {n : Nat} {l : List Nat}
    (hl : l.Pairwise fun a b => g a ≤ g b) (hbefore : ∀ b, f b = true → g n ≤ g b)
    (hafter : ∀ b, f b = false → g b ≤ g n) : (insertBefore f n l).Pairwise fun a b => g a ≤ g b := by
  induction l with
  | nil => exact List.pairwise_singleton _ _
  | cons a l ih =>
    obtain ⟨ha, hl⟩ := List.pairwise_cons.mp hl
    unfold insertBefore
    cases hf : f a with
    | true =>
      refine List.pairwise_cons.mpr ⟨fun b hb => ?_, List.pairwise_cons.mpr ⟨ha, hl⟩⟩
      rcases List.mem_cons.mp hb with rfl | hb
      · exact hbefore _ hf
      · exact (hbefore _ hf).trans (ha b hb)
    | false =>
      refine List.pairwise_cons.mpr ⟨fun b hb => ?_, ih hl⟩
      rcases List.mem_cons.mp ((insertBefore_perm f n l).mem_iff.mp hb) with rfl | hb
      · exact hafter _ hf
      · exact ha b hb

theorem insertBuild_perm (b : Build) (l : List Build) : (insertBuild b l).Perm (b :: l) := by
  induction l with
  | nil => exact .refl _
  | cons a l ih =>
    unfold insertBuild
    split
    · exact .refl _
    · exact (ih.cons a).trans (.swap b a l)

/-- Records of different ids are one of them and the rest. -/
theorem perm_filter_bid {l : List Build} (h : (l.map fun b => b.bid).Nodup) {b : Build} (hb : b ∈ l) :
    l.Perm (b :: l.filter fun c => decide (c.bid ≠ b.bid)) := by
  induction l with
  | nil => cases hb
  | cons a l ih =>
    obtain ⟨ha, hl⟩ := List.nodup_cons.mp h
    rcases List.mem_cons.mp hb with rfl | hb'
    · have : l.filter (fun c => decide (c.bid ≠ b.bid)) = l :=
        List.filter_eq_self.mpr fun c hc => by
          simpa using fun e : c.bid = b.bid => ha (List.mem_map.mpr ⟨c, hc, e⟩)
      rw [List.filter_cons_of_neg (by simp), this]
    · have hne : a.bid ≠ b.bid := fun e => ha (List.mem_map.mpr ⟨b, hb', e.symm⟩)
      rw [List.filter_cons_of_pos (by simpa using hne)]
      exact ((ih hl hb').cons a).trans (.swap b a _)

/-- The lowest-numbered free record, or none: then all 32 are in use (R34). -/
theorem Plates.freeRecord_none {t : Plates} (h : t.freeRecord = none) (hids : (t.builds.map fun b => b.bid).Nodup)
    (hlt : ∀ b ∈ t.builds, b.bid < 32) : t.builds.length = 32 := by
  have hsub : (t.builds.map fun b => b.bid) ⊆ List.range 32 := fun n hn => by
    obtain ⟨b, hb, rfl⟩ := List.mem_map.mp hn
    exact List.mem_range.mpr (hlt b hb)
  have hsup : List.range 32 ⊆ t.builds.map fun b => b.bid := fun n hn => by
    by_contra hne
    refine List.find?_eq_none.mp h n hn (List.all_eq_true.mpr fun b hb => ?_)
    simpa using fun e : b.bid = n => hne (List.mem_map.mpr ⟨b, hb, e⟩)
  have h1 := (hids.subperm hsub).length_le
  have h2 := (List.nodup_range.subperm hsup).length_le
  simp only [List.length_map, List.length_range] at h1 h2
  omega

theorem Plates.freeRecord_some {t : Plates} {n : Nat} (h : t.freeRecord = some n) :
    n < 32 ∧ ∀ b ∈ t.builds, b.bid ≠ n := by
  have hn := List.mem_of_find?_eq_some h
  have hfree := List.find?_some h
  exact ⟨List.mem_range.mp hn, by simpa using hfree⟩

/-! ### The invariant -/

/-- The plate ids of the current builds and items (R36). -/
def currentPlates (builds : List Build) (items : List Item) : List PlateId :=
  ((builds.filter fun b => decide (b.cause = .none_)).map fun b => b.plate) ++
    (items.filter fun it => decide (it.cause = .none_)).map fun it => it.plate

/-- The clauses of `BuildsSound` about the plate tables, where the exposure queue owes nothing to the build `skip`: within
an operation a build is READY and not yet queued, or queued no longer and not yet dispatched. -/
structure PlatesSound (skip : Option Nat) (s : State) : Prop where
  ids : (s.plates.builds.map fun b => b.bid).Nodup
  bounded : ∀ b ∈ s.plates.builds, b.bid < 32
  queueNodup : s.plates.queue.Nodup
  queued : ∀ n, n ∈ s.plates.queue ↔ some n ≠ skip ∧ ∃ b ∈ s.plates.builds, b.bid = n ∧ b.state = .ready
  ordered : s.plates.queue.Pairwise fun m n => s.classOf m ≤ s.classOf n
  pendingNodup : s.plates.pendingList.Nodup
  current : (currentPlates s.plates.builds s.line.items).Nodup
  waiting : ∀ b ∈ s.plates.builds, b.state = .open_ ∨ b.state = .ready → b.imager = none

/-- What an imager's sequencer may hold (Table 6.5). -/
structure Holds (builds : List Build) (i : Imager) (q : Sequencer) : Prop where
  resting : q.state = .idle ∨ q.state = .unloading ∨ q.state = .fault → q.build = none
  dispatched : ∀ n ∈ q.build, ∃ b ∈ builds, b.bid = n ∧ b.imager = some i ∧ b.state ≠ .open_ ∧ b.state ≠ .ready

/-- The pending list waits only while all 32 records are in use (R42). -/
abbrev PendingFull (s : State) : Prop := s.plates.pendingList ≠ [] → s.plates.builds.length = 32

/-- The clauses of `BuildsSound`, grouped. -/
structure Sound (s : State) : Prop where
  plates : PlatesSound none s
  full : PendingFull s
  holds : ∀ i, Holds s.plates.builds i (s.channel i).seq

theorem buildsSound_iff (s : State) : BuildsSound s ↔ Sound s := by
  constructor
  · rintro ⟨h1, h2, h3, h4, h5, h6, h7, h8, h9, h10, h11, h12⟩
    refine ⟨⟨h1, h2, h3, fun n => ⟨fun hn => ⟨by simp, h4 n hn⟩, ?_⟩, h6, h7, h9, h10⟩, h8, fun i => ?_⟩
    · rintro ⟨-, b, hb, rfl, hr⟩
      exact h5 b hb hr
    · cases i
      · exact ⟨h11.1, h11.2⟩
      · exact ⟨h12.1, h12.2⟩
  · rintro ⟨⟨h1, h2, h3, h4, h6, h7, h9, h10⟩, h8, hh⟩
    exact ⟨h1, h2, h3, fun n hn => ((h4 n).mp hn).2, fun b hb hr => (h4 _).mpr ⟨by simp, b, hb, rfl, hr⟩, h6, h7, h8, h9,
      h10, ⟨(hh .a).1, (hh .a).2⟩, ⟨(hh .b).1, (hh .b).2⟩⟩

variable {s t : State} {skip : Option Nat}

namespace PlatesSound

theorem eq_of_bid (h : PlatesSound skip s) {b c : Build} (hb : b ∈ s.plates.builds) (hc : c ∈ s.plates.builds)
    (he : b.bid = c.bid) : b = c :=
  List.inj_on_of_nodup_map h.ids hb hc he

theorem build_eq (h : PlatesSound skip s) {b : Build} (hb : b ∈ s.plates.builds) : s.build b.bid = some b := by
  cases hf : s.build b.bid with
  | none => exact absurd (List.find?_eq_none.mp hf b hb) (by simp)
  | some c =>
    have hc := List.mem_of_find?_eq_some hf
    have he : c.bid = b.bid := by simpa using List.find?_some hf
    rw [h.eq_of_bid hc hb he]

/-- The order of a queue depends on the classes of the builds in it alone. -/
theorem ordered_of (h : PlatesSound skip s) {q : List Nat} (hq : q.Sublist s.plates.queue)
    (hclass : ∀ n ∈ q, t.classOf n = s.classOf n) : q.Pairwise fun m n => t.classOf m ≤ t.classOf n :=
  (h.ordered.sublist hq).imp_of_mem fun hm hn hle => by rw [hclass _ hm, hclass _ hn]; exact hle

/-- What is not the tables may change, and current items may be retired or leave. -/
theorem of_same (h : PlatesSound skip s) (hb : t.plates.builds = s.plates.builds) (hq : t.plates.queue = s.plates.queue)
    (hp : t.plates.pendingList = s.plates.pendingList)
    (hclass : ∀ b ∈ s.plates.builds, t.classOfPlate b.plate = s.classOfPlate b.plate)
    (hc : (currentPlates t.plates.builds t.line.items).Nodup) : PlatesSound skip t := by
  refine ⟨hb ▸ h.ids, hb ▸ h.bounded, hq ▸ h.queueNodup, by rw [hq, hb]; exact h.queued, ?_, hp ▸ h.pendingNodup, hc,
    hb ▸ h.waiting⟩
  rw [hq]
  refine h.ordered_of (List.Sublist.refl _) fun n hn => ?_
  obtain ⟨-, b, hmem, rfl, -⟩ := (h.queued n).mp hn
  have hbuild : t.build b.bid = s.build b.bid := by simp only [State.build, hb]
  simp only [State.classOf, hbuild, h.build_eq hmem, Option.map_some, Option.getD_some, hclass b hmem]

theorem of_plates (h : PlatesSound skip s) (hp : t.plates = s.plates)
    (hl : ((t.line.items.filter fun it => decide (it.cause = .none_)).map fun it => it.plate).Sublist
      ((s.line.items.filter fun it => decide (it.cause = .none_)).map fun it => it.plate)) : PlatesSound skip t :=
  h.of_same (by rw [hp]) (by rw [hp]) (by rw [hp])
    (fun b _ => by simp only [State.classOfPlate, State.entry, hp])
    (by rw [hp]; exact h.current.sublist ((List.Sublist.refl _).append hl))

/-- A build outside the queue owes it nothing. -/
theorem exempt (h : PlatesSound none s) {n : Nat} (hn : ∀ b ∈ s.plates.builds, b.bid = n → b.state ≠ .ready) :
    PlatesSound (some n) s :=
  { h with
    queued := fun m => by
      rw [h.queued m]
      constructor
      · rintro ⟨-, b, hb, rfl, hr⟩
        exact ⟨fun e => hn b hb (Option.some.inj e) hr, b, hb, rfl, hr⟩
      · exact fun hm => ⟨by simp, hm.2⟩ }

/-- A build that is not READY is exempt for no reason. -/
theorem unexempt {n : Nat} (h : PlatesSound (some n) s)
    (hn : ∀ b ∈ s.plates.builds, b.bid = n → b.state ≠ .ready) : PlatesSound none s :=
  { h with
    queued := fun m => by
      rw [h.queued m]
      constructor
      · exact fun hm => ⟨by simp, hm.2⟩
      · rintro ⟨-, b, hb, rfl, hr⟩
        exact ⟨fun e => hn b hb (Option.some.inj e) hr, b, hb, rfl, hr⟩ }

/-- A record changes; it stays of its id and plate, is not made current again, and names no imager while it waits. The
queue owes it nothing, or its state stays. -/
theorem modifyRecord {n : Nat} (h : PlatesSound skip s) {f : Build → Build}
    (hstate : skip = some n ∨ ∀ b, (f b).state = b.state) (hbid : ∀ b, (f b).bid = b.bid)
    (hplate : ∀ b, (f b).plate = b.plate) (hcause : ∀ b, (f b).cause = .none_ → b.cause = .none_)
    (hwait : ∀ b ∈ s.plates.builds, b.bid = n → (f b).state = .open_ ∨ (f b).state = .ready → (f b).imager = none) :
    PlatesSound skip (s.modifyBuild n f) := by
  let g : Build → Build := fun b => if b.bid = n then f b else b
  have hb : (s.modifyBuild n f).plates.builds = s.plates.builds.map g := rfl
  have gbid : ∀ b, (g b).bid = b.bid := fun b => by dsimp only [g]; split <;> simp [hbid]
  have gplate : ∀ b, (g b).plate = b.plate := fun b => by dsimp only [g]; split <;> simp [hplate]
  have gcause : ∀ b, (g b).cause = .none_ → b.cause = .none_ := fun b => by
    dsimp only [g]
    split
    · exact hcause b
    · exact id
  have gstate : ∀ b, some b.bid ≠ skip → (g b).state = b.state := fun b hne => by
    dsimp only [g]
    split
    · rename_i e
      rcases hstate with rfl | hf
      · exact absurd (congrArg some e) hne
      · exact hf b
    · rfl
  have hids : ((s.modifyBuild n f).plates.builds.map fun b => b.bid) = s.plates.builds.map fun b => b.bid := by
    rw [hb, List.map_map]
    exact List.map_congr_left fun b _ => gbid b
  refine ⟨hids ▸ h.ids, ?_, h.queueNodup, fun m => (h.queued m).trans (and_congr_right fun hm => ?_), ?_,
    h.pendingNodup, ?_, ?_⟩
  · intro b hb'
    obtain ⟨c, hc, rfl⟩ := List.mem_map.mp (hb ▸ hb')
    rw [gbid]
    exact h.bounded c hc
  · rw [hb]
    constructor
    · rintro ⟨b, hb, rfl, hr⟩
      exact ⟨g b, List.mem_map_of_mem hb, gbid b, (gstate b hm).trans hr⟩
    · rintro ⟨b, hb, rfl, hr⟩
      obtain ⟨c, hc, rfl⟩ := List.mem_map.mp hb
      rw [gbid] at hm
      exact ⟨c, hc, (gbid c).symm, (gstate c hm).symm.trans hr⟩
  · refine h.ordered_of (List.Sublist.refl _) fun m hm => ?_
    obtain ⟨-, b, hmem, rfl, -⟩ := (h.queued m).mp hm
    have hfind : (s.modifyBuild n f).build b.bid = some (g b) := by
      have hmem' : g b ∈ (s.modifyBuild n f).plates.builds := List.mem_map_of_mem hmem
      cases hf : (s.modifyBuild n f).build b.bid with
      | none => exact absurd (List.find?_eq_none.mp hf _ hmem') (by simp [gbid])
      | some c =>
        have he : c.bid = b.bid := by simpa using List.find?_some hf
        exact congrArg some (List.inj_on_of_nodup_map (hids ▸ h.ids) (List.mem_of_find?_eq_some hf) hmem'
          (he.trans (gbid b).symm))
    simp only [State.classOf, hfind, h.build_eq hmem, Option.map_some, gplate]
    rfl
  · refine h.current.sublist ((List.Sublist.append ?_ (List.Sublist.refl _)))
    rw [hb]
    generalize s.plates.builds = l
    induction l with
    | nil => exact .refl _
    | cons a l ih =>
      simp only [List.map_cons, List.filter_cons, decide_eq_true_eq]
      by_cases e : (g a).cause = .none_
      · rw [if_pos e, if_pos (gcause a e), List.map_cons, List.map_cons, gplate]
        exact ih.cons_cons _
      · rw [if_neg e]
        split
        · exact ih.cons _
        · exact ih
  · intro b hb' hw
    obtain ⟨c, hc, rfl⟩ := List.mem_map.mp (hb ▸ hb')
    by_cases e : c.bid = n
    · simp only [g, if_pos e] at hw ⊢
      exact hwait c hc e hw
    · simp only [g, if_neg e] at hw ⊢
      exact h.waiting c hc hw

/-- A record that the queue owes nothing changes. -/
theorem modifyBuild {n : Nat} (h : PlatesSound (some n) s) {f : Build → Build} (hbid : ∀ b, (f b).bid = b.bid)
    (hplate : ∀ b, (f b).plate = b.plate) (hcause : ∀ b, (f b).cause = .none_ → b.cause = .none_)
    (hwait : ∀ b ∈ s.plates.builds, b.bid = n → (f b).state = .open_ ∨ (f b).state = .ready → (f b).imager = none) :
    PlatesSound (some n) (s.modifyBuild n f) :=
  h.modifyRecord (.inl rfl) hbid hplate hcause hwait

/-- A record that is not in the queue and does not join it changes (R35). -/
theorem modifyDispatched {n : Nat} (h : PlatesSound none s) {f : Build → Build} (hbid : ∀ b, (f b).bid = b.bid)
    (hplate : ∀ b, (f b).plate = b.plate) (hcause : ∀ b, (f b).cause = .none_ → b.cause = .none_)
    (hold : ∀ b ∈ s.plates.builds, b.bid = n → b.state ≠ .ready)
    (hnew : ∀ b ∈ s.plates.builds, b.bid = n → (f b).state ≠ .open_ ∧ (f b).state ≠ .ready) :
    PlatesSound none (s.modifyBuild n f) := by
  refine ((h.exempt hold).modifyBuild hbid hplate hcause ?_).unexempt ?_
  · rintro b hb he (hw | hw)
    · exact absurd hw (hnew b hb he).1
    · exact absurd hw (hnew b hb he).2
  · intro b hb he
    obtain ⟨c, hc, rfl⟩ := List.mem_map.mp (show b ∈ s.plates.builds.map _ from hb)
    by_cases e : c.bid = n
    · rw [if_pos e]
      exact (hnew c hc e).2
    · rw [if_neg e] at he
      exact absurd he e

/-- A READY build takes its place in the queue (R57, R58). -/
theorem enqueue {n : Nat} (h : PlatesSound (some n) s) (hn : ∃ b ∈ s.plates.builds, b.bid = n ∧ b.state = .ready)
    {f : Nat → Bool} (hbefore : ∀ b, f b = true → s.classOf n ≤ s.classOf b)
    (hafter : ∀ b, f b = false → s.classOf b ≤ s.classOf n) (o : Bool) :
    PlatesSound none { s with
      passOwed := o, plates := { s.plates with queue := insertBefore f n s.plates.queue } } := by
  have hnq : n ∉ s.plates.queue := fun hq => ((h.queued n).mp hq).1 rfl
  refine ⟨h.ids, h.bounded, ?_, fun m => ?_, insertBefore_ordered h.ordered hbefore hafter, h.pendingNodup, h.current,
    h.waiting⟩
  · exact (insertBefore_perm f n _).nodup_iff.mpr (List.nodup_cons.mpr ⟨hnq, h.queueNodup⟩)
  · rw [(insertBefore_perm f n _).mem_iff, List.mem_cons, h.queued m]
    constructor
    · rintro (rfl | hm)
      · exact ⟨by simp, hn⟩
      · exact ⟨by simp, hm.2⟩
    · rintro ⟨-, hm⟩
      by_cases e : m = n
      · exact .inl e
      · exact .inr ⟨by simpa using e, hm⟩

theorem joinQueue {n : Nat} (h : PlatesSound (some n) s)
    (hn : ∃ b ∈ s.plates.builds, b.bid = n ∧ b.state = .ready) : PlatesSound none (s.joinQueue n) :=
  h.enqueue hn (fun b hb => by simp only [decide_eq_true_eq] at hb; omega)
    (fun b hb => by simp only [decide_eq_false_iff_not] at hb; omega) true

theorem rejoinQueue {n : Nat} (h : PlatesSound (some n) s)
    (hn : ∃ b ∈ s.plates.builds, b.bid = n ∧ b.state = .ready) : PlatesSound none (s.rejoinQueue n) :=
  h.enqueue hn (fun b hb => by simp only [decide_eq_true_eq] at hb; omega)
    (fun b hb => by simp only [decide_eq_false_iff_not] at hb; omega) true

/-- A build leaves the queue (R68 step 1). -/
theorem dequeue (h : PlatesSound none s) (n : Nat) :
    PlatesSound (some n) { s with plates := { s.plates with
      queue := s.plates.queue.filter fun m => decide (m ≠ n) } } := by
  refine ⟨h.ids, h.bounded, h.queueNodup.filter _, fun m => ?_, h.ordered.filter _, h.pendingNodup, h.current,
    h.waiting⟩
  rw [List.mem_filter, h.queued m]
  simp only [decide_eq_true_eq, ne_eq, reduceCtorEq, not_false_eq_true, true_and, Option.some.injEq]
  exact and_comm

/-- A record becomes free (R51, R56), and its plate may go on as an item. -/
theorem free (h : PlatesSound none s) (n : Nat) (hp : t.plates = (s.freeBuild n).plates)
    (hc : (currentPlates t.plates.builds t.line.items).Nodup) : PlatesSound none t := by
  have hsub : (t.plates.builds).Sublist s.plates.builds := hp ▸ List.filter_sublist
  have hmem : ∀ b, b ∈ t.plates.builds ↔ b ∈ s.plates.builds ∧ b.bid ≠ n := by
    simp [hp, State.freeBuild, List.mem_filter]
  have hids : (t.plates.builds.map fun b => b.bid).Nodup := h.ids.sublist (hsub.map _)
  have hq : t.plates.queue = s.plates.queue.filter fun m => decide (m ≠ n) := by rw [hp]; rfl
  refine ⟨hids, fun b hb => h.bounded b (hsub.subset hb), hq ▸ h.queueNodup.filter _, fun m => ?_, ?_, ?_, hc,
    fun b hb => h.waiting b (hsub.subset hb)⟩
  · rw [hq, List.mem_filter, h.queued m]
    simp only [decide_eq_true_eq]
    constructor
    · rintro ⟨⟨h1, b, hb, rfl, hr⟩, hne⟩
      exact ⟨h1, b, (hmem b).mpr ⟨hb, hne⟩, rfl, hr⟩
    · rintro ⟨h1, b, hb, rfl, hr⟩
      exact ⟨⟨h1, b, ((hmem b).mp hb).1, rfl, hr⟩, ((hmem b).mp hb).2⟩
  · rw [hq]
    refine h.ordered_of List.filter_sublist fun m hm => ?_
    obtain ⟨hm, hne⟩ := List.mem_filter.mp hm
    obtain ⟨-, b, hb, rfl, -⟩ := (h.queued m).mp hm
    have hb' : b ∈ t.plates.builds := (hmem b).mpr ⟨hb, by simpa using hne⟩
    have hfind : t.build b.bid = some b := by
      cases hf : t.build b.bid with
      | none => exact absurd (List.find?_eq_none.mp hf b hb') (by simp)
      | some c =>
        have he : c.bid = b.bid := by simpa using List.find?_some hf
        exact congrArg some (List.inj_on_of_nodup_map hids (List.mem_of_find?_eq_some hf) hb' he)
    simp only [State.classOf, hfind, h.build_eq hb, State.classOfPlate, State.entry, hp]
    rfl
  · rw [hp]
    exact h.pendingNodup

theorem freeBuild (h : PlatesSound none s) (n : Nat) : PlatesSound none (s.freeBuild n) :=
  h.free n rfl (h.current.sublist ((List.filter_sublist.filter _).map _ |>.append (.refl _)))

/-- A build becomes the item of its plate (R51, R138). -/
theorem merge (h : PlatesSound none s) {b : Build} (hb : b ∈ s.plates.builds) {it : Item}
    (hp : t.plates = (s.freeBuild b.bid).plates) (hl : t.line.items = s.line.items ++ [it])
    (hplate : it.plate = b.plate) (hcause : it.cause = b.cause) : PlatesSound none t := by
  refine h.free b.bid hp ?_
  refine List.Perm.nodup (l := currentPlates s.plates.builds s.line.items) ?_ h.current
  have hbuilds := (((perm_filter_bid h.ids hb).filter fun c => decide (c.cause = .none_)).map fun c => c.plate)
  have hrest : t.plates.builds = s.plates.builds.filter fun c => decide (c.bid ≠ b.bid) := by rw [hp]; rfl
  refine (hbuilds.append_right _).trans ?_
  unfold currentPlates
  rw [hl, hrest, List.filter_append, List.map_append]
  by_cases hc : b.cause = .none_
  · rw [List.filter_cons_of_pos (by simpa using hc), List.map_cons, List.cons_append]
    simp only [List.filter_cons, hcause, hc, decide_true, if_true, List.filter_nil, List.map_cons, hplate, List.map_nil]
    rw [← List.append_assoc]
    exact (List.perm_append_singleton _ _).symm
  · rw [List.filter_cons_of_neg (by simpa using hc)]
    simp [hcause, hc]

/-- A build is created on a free record for a plate id without a current plate (R40). -/
theorem create (h : PlatesSound none s) {b : Build} (hlt : b.bid < 32) (hfree : ∀ c ∈ s.plates.builds, c.bid ≠ b.bid)
    (hnew : b.plate ∉ currentPlates s.plates.builds s.line.items) (himager : b.imager = none)
    (hb : t.plates.builds = insertBuild b s.plates.builds) (hq : t.plates.queue = s.plates.queue)
    (hp : t.plates.pendingList = s.plates.pendingList) (hclass : ∀ p, t.classOfPlate p = s.classOfPlate p)
    (hl : t.line.items = s.line.items) : PlatesSound (some b.bid) t := by
  have hperm := insertBuild_perm b s.plates.builds
  have hids : (t.plates.builds.map fun c => c.bid).Nodup := by
    rw [hb, (hperm.map _).nodup_iff, List.map_cons, List.nodup_cons]
    refine ⟨fun hm => ?_, h.ids⟩
    obtain ⟨c, hc, he⟩ := List.mem_map.mp hm
    exact hfree c hc he
  have hmem : ∀ c, c ∈ t.plates.builds ↔ c = b ∨ c ∈ s.plates.builds := fun c => by
    rw [hb, hperm.mem_iff, List.mem_cons]
  refine ⟨hids, fun c hc => ?_, hq ▸ h.queueNodup, fun m => ?_, ?_, hp ▸ h.pendingNodup, ?_, fun c hc hw => ?_⟩
  · rcases (hmem c).mp hc with rfl | hc
    · exact hlt
    · exact h.bounded c hc
  · rw [hq, h.queued m]
    constructor
    · rintro ⟨-, c, hc, rfl, hr⟩
      exact ⟨fun e => hfree c hc (Option.some.inj e), c, (hmem c).mpr (.inr hc), rfl, hr⟩
    · rintro ⟨hne, c, hc, rfl, hr⟩
      rcases (hmem c).mp hc with rfl | hc
      · exact absurd rfl hne
      · exact ⟨by simp, c, hc, rfl, hr⟩
  · rw [hq]
    refine h.ordered_of (.refl _) fun m hm => ?_
    obtain ⟨-, c, hc, rfl, -⟩ := (h.queued m).mp hm
    have hc' : c ∈ t.plates.builds := (hmem c).mpr (.inr hc)
    have hfind : t.build c.bid = some c := by
      cases hf : t.build c.bid with
      | none => exact absurd (List.find?_eq_none.mp hf c hc') (by simp)
      | some d =>
        have he : d.bid = c.bid := by simpa using List.find?_some hf
        exact congrArg some (List.inj_on_of_nodup_map hids (List.mem_of_find?_eq_some hf) hc' he)
    simp only [State.classOf, hfind, h.build_eq hc, Option.map_some, Option.getD_some, hclass]
  · rw [hb, hl]
    have hperm' := ((hperm.filter fun c => decide (c.cause = .none_)).map fun c => c.plate).append_right
      ((s.line.items.filter fun it => decide (it.cause = .none_)).map fun it => it.plate)
    refine hperm'.nodup_iff.mpr ?_
    rw [List.filter_cons]
    split
    · rw [List.map_cons, List.cons_append, List.nodup_cons]
      exact ⟨hnew, h.current⟩
    · exact h.current
  · rcases (hmem c).mp hc with rfl | hc
    · exact himager
    · exact h.waiting c hc hw

theorem pending (h : PlatesSound skip s) {l : List PlateId} (hl : l.Nodup) :
    PlatesSound skip { s with plates := { s.plates with pendingList := l } } :=
  ⟨h.ids, h.bounded, h.queueNodup, h.queued, h.ordered, hl, h.current, h.waiting⟩

theorem leavePending (h : PlatesSound skip s) (p : PlateId) : PlatesSound skip (s.leavePending p) :=
  h.pending (h.pendingNodup.filter _)

theorem joinPending (h : PlatesSound skip s) (p : PlateId) : PlatesSound skip (s.joinPending p) := by
  unfold State.joinPending
  split
  · exact h
  · rename_i hp
    refine h.pending ?_
    rw [List.nodup_append]
    exact ⟨h.pendingNodup, List.nodup_singleton p, fun a ha b hb => by
      obtain rfl := List.mem_singleton.mp hb
      rintro rfl
      exact hp ha⟩

end PlatesSound

/-- An update of an entry that keeps its plate id and class keeps the class of every plate id. -/
theorem State.classOfPlate_modifyEntry (p : PlateId) {f : MapEntry → MapEntry} (hid : ∀ e, (f e).id = e.id)
    (hcls : ∀ e, (f e).cls = e.cls) (s : State) (q : PlateId) :
    (s.modifyEntry p f).classOfPlate q = s.classOfPlate q := by
  have : ∀ l : List MapEntry,
      ((l.map fun e => if e.id = p then f e else e).find? fun e => decide (e.id = q)).map MapEntry.cls =
        (l.find? fun e => decide (e.id = q)).map MapEntry.cls := by
    intro l
    induction l with
    | nil => rfl
    | cons e l ih =>
      have h1 : (if e.id = p then f e else e).id = e.id := by split <;> simp [hid]
      have h2 : (if e.id = p then f e else e).cls = e.cls := by split <;> simp [hcls]
      rw [List.map_cons, List.find?_cons, List.find?_cons, h1]
      split
      · simp [h2]
      · exact ih
  exact congrArg (Option.getD · 0) (this s.plates.map)

/-! ### The build-need check (R38 to R42) -/

theorem State.entry_id {p : PlateId} {e : MapEntry} (h : s.entry p = some e) : e.id = p := by
  simpa using List.find?_some h

/-- The plate ids with a current plate are those of the current builds and items (R36). -/
theorem State.hasCurrentPlate_iff (s : State) (p : PlateId) :
    s.hasCurrentPlate p = true ↔ p ∈ currentPlates s.plates.builds s.line.items := by
  simp only [State.hasCurrentPlate, State.currentBuild, State.currentItem, Bool.or_eq_true, List.find?_isSome,
    Bool.and_eq_true, decide_eq_true_eq, currentPlates, List.mem_append, List.mem_map, List.mem_filter]
  constructor
  · rintro (⟨x, hx, hp, hc⟩ | ⟨x, hx, hp, hc⟩)
    · exact .inl ⟨x, ⟨hx, hc⟩, hp⟩
    · exact .inr ⟨x, ⟨hx, hc⟩, hp⟩
  · rintro (⟨x, ⟨hx, hc⟩, hp⟩ | ⟨x, ⟨hx, hc⟩, hp⟩)
    · exact .inl ⟨x, hx, hp, hc⟩
    · exact .inr ⟨x, hx, hp, hc⟩

/-- A build created is inserted, and joins the queue unless it waits for a page (R40, R57). -/
theorem State.createBuild_builds (e : MapEntry) (w : Option (PageKey × Nat)) (n : Nat) (s : State) :
    ∃ b, b.bid = n ∧ (s.createBuild e w n).plates.builds = insertBuild b s.plates.builds := by
  unfold State.createBuild
  dsimp only
  split <;> exact ⟨_, rfl, rfl⟩

theorem State.createBuild_pending (e : MapEntry) (w : Option (PageKey × Nat)) (n : Nat) (s : State) :
    (s.createBuild e w n).plates.pendingList = s.plates.pendingList := by
  unfold State.createBuild
  dsimp only
  split <;> rfl

theorem PlatesSound.createBuild (h : PlatesSound none s) {e : MapEntry} {n : Nat} (w : Option (PageKey × Nat))
    (hn : s.plates.freeRecord = some n) (he : s.hasCurrentPlate e.id = false) :
    PlatesSound none (s.createBuild e w n) := by
  obtain ⟨hlt, hfree⟩ := Plates.freeRecord_some hn
  have hnew : e.id ∉ currentPlates s.plates.builds s.line.items := by
    rw [← s.hasCurrentPlate_iff, he]
    simp
  have hclass : ∀ p, (s.modifyEntry e.id fun f => { f with generation := (e.generation + 1) % 256 }).classOfPlate p =
      s.classOfPlate p := s.classOfPlate_modifyEntry e.id (f := fun f => { f with generation := (e.generation + 1) % 256 })
      (fun _ => rfl) fun _ => rfl
  unfold State.createBuild
  dsimp only
  generalize hb : (Build.mk n e.id _ _ _ _ _ _ _ _ : Build) = b
  have hbid : b.bid = n := by rw [← hb]
  have hins : PlatesSound (some n) { (s.modifyEntry e.id fun f => { f with generation := (e.generation + 1) % 256 }) with
      plates := { (s.modifyEntry e.id fun f => { f with generation := (e.generation + 1) % 256 }).plates with
        builds := insertBuild b s.plates.builds },
      store := s.store.addRefs (e.positions.map (bindPosition s.store w)) } := by
    rw [← hbid] at hlt hfree ⊢
    exact h.create hlt hfree (by rw [← hb]; exact hnew) (by rw [← hb]) rfl rfl rfl hclass rfl
  have hmem : b ∈ insertBuild b s.plates.builds := (insertBuild_perm b _).mem_iff.mpr List.mem_cons_self
  split
  · rename_i hw
    refine hins.unexempt fun c hc hcn => ?_
    rw [hins.eq_of_bid hc hmem (hcn.trans hbid.symm), ← hb]
    simp [hw]
  · rename_i hw
    refine hins.joinQueue ⟨b, hmem, hbid, ?_⟩
    rw [← hb]
    simp [hw]

/-- What a build-need check can do: nothing to the builds, or a build created on a free record (R38). -/
theorem State.needCheck_cases (p : PlateId) (w : Option (PageKey × Nat)) (s : State) :
    s.needCheck p w = s ∨ s.needCheck p w = s.leavePending p ∨
    (s.plates.freeRecord = none ∧ s.needCheck p w = s.joinPending p) ∨
    ∃ e n, s.plates.freeRecord = some n ∧ e.id = p ∧ s.hasCurrentPlate e.id = false ∧
      s.needCheck p w = (s.createBuild e w n).leavePending p := by
  unfold State.needCheck
  split
  · exact .inl rfl
  · rename_i e he
    split
    · rename_i hneed
      have hcur : s.hasCurrentPlate e.id = false := by
        simp only [State.needsBuild, Bool.and_eq_true, Bool.not_eq_true'] at hneed
        exact hneed.1
      split
      · rename_i n hn
        exact .inr (.inr (.inr ⟨e, n, hn, State.entry_id he, hcur, rfl⟩))
      · exact .inr (.inr (.inl ⟨‹_›, rfl⟩))
    · exact .inr (.inl rfl)

theorem PlatesSound.needCheck (h : PlatesSound none s) (p : PlateId) (w : Option (PageKey × Nat)) :
    PlatesSound none (s.needCheck p w) := by
  rcases s.needCheck_cases p w with heq | heq | ⟨-, heq⟩ | ⟨e, n, hn, -, hcur, heq⟩ <;> rw [heq]
  · exact h
  · exact h.leavePending p
  · exact h.joinPending p
  · exact (h.createBuild w hn hcur).leavePending p

/-- A build-need check leaves every build as it is. -/
theorem State.mem_needCheck {b : Build} (hb : b ∈ s.plates.builds) (p : PlateId) (w : Option (PageKey × Nat)) :
    b ∈ (s.needCheck p w).plates.builds := by
  rcases s.needCheck_cases p w with heq | heq | ⟨-, heq⟩ | ⟨e, n, -, -, -, heq⟩ <;> rw [heq]
  · exact hb
  · exact hb
  · simpa using hb
  · obtain ⟨c, -, hc⟩ := s.createBuild_builds e w n
    show b ∈ (s.createBuild e w n).plates.builds
    rw [hc]
    exact (insertBuild_perm c _).mem_iff.mpr (List.mem_cons_of_mem _ hb)

theorem PlatesSound.needCheck_full (h : PlatesSound none s) (hf : PendingFull s) (p : PlateId)
    (w : Option (PageKey × Nat)) : PendingFull (s.needCheck p w) := by
  rcases s.needCheck_cases p w with heq | heq | ⟨hn, heq⟩ | ⟨e, n, hn, -, hcur, heq⟩ <;> rw [heq]
  · exact hf
  · exact fun hne => hf fun e => hne (by simp [State.leavePending, e])
  · intro _
    simpa using Plates.freeRecord_none hn h.ids h.bounded
  · intro hne
    have hp : s.plates.pendingList = [] := by
      by_contra hne'
      obtain ⟨hlt, hfree⟩ := Plates.freeRecord_some hn
      have hlen := hf hne'
      have hsub : (n :: s.plates.builds.map fun b => b.bid) ⊆ List.range 32 := fun m hm => by
        rcases List.mem_cons.mp hm with rfl | hm
        · exact List.mem_range.mpr hlt
        · obtain ⟨b, hb, rfl⟩ := List.mem_map.mp hm
          exact List.mem_range.mpr (h.bounded b hb)
      have hnodup : (n :: s.plates.builds.map fun b => b.bid).Nodup :=
        List.nodup_cons.mpr ⟨fun hm => by
          obtain ⟨b, hb, he⟩ := List.mem_map.mp hm
          exact hfree b hb he, h.ids⟩
      have := (hnodup.subperm hsub).length_le
      simp only [List.length_cons, List.length_map, List.length_range] at this
      omega
    exact absurd (by simp [State.leavePending, State.createBuild_pending, hp]) hne

/-! ### The pending list worked (R42) -/

theorem PlatesSound.workPendingFrom (h : PlatesSound none s) (l : List PlateId) :
    PlatesSound none (s.workPendingFrom l) := by
  induction l generalizing s with
  | nil => exact h
  | cons p l ih =>
    have h' := (h.leavePending p).needCheck p none
    unfold State.workPendingFrom
    dsimp only
    split
    · exact h'
    · exact ih h'

theorem State.mem_workPendingFrom {b : Build} (hb : b ∈ s.plates.builds) (l : List PlateId) :
    b ∈ (s.workPendingFrom l).plates.builds := by
  induction l generalizing s with
  | nil => exact hb
  | cons p l ih =>
    have h' := State.mem_needCheck (s := s.leavePending p) hb p none
    unfold State.workPendingFrom
    dsimp only
    split
    · exact h'
    · exact ih h'

/-- With one record free, working the pending list fills it or empties the list. -/
theorem PlatesSound.workPendingFrom_full (h : PlatesSound none s) {l : List PlateId} (hl : s.plates.pendingList = l)
    (hlen : l ≠ [] → s.plates.builds.length = 31) : PendingFull (s.workPendingFrom l) := by
  induction l generalizing s with
  | nil => exact fun hne => absurd hl hne
  | cons p l ih =>
    have hlen := hlen (by simp)
    have hleft : (s.leavePending p).plates.pendingList = l := by
      have hnodup := h.pendingNodup
      rw [hl, List.nodup_cons] at hnodup
      simp only [State.leavePending, hl, List.filter_cons, ne_eq, not_true_eq_false, decide_false, Bool.false_eq_true,
        if_false]
      exact List.filter_eq_self.mpr fun q hq => by simpa using fun e : q = p => hnodup.1 (e ▸ hq)
    have h1 := h.leavePending p
    have h2 := h1.needCheck p none
    have again : ∀ u, u = (s.leavePending p).needCheck p none → u.plates.builds = s.plates.builds →
        u.plates.pendingList = l → PendingFull (if s.plates.builds.length < u.plates.builds.length then u
          else u.workPendingFrom l) := by
      intro u hu hb hp
      rw [hb, if_neg (Nat.lt_irrefl _)]
      exact ih (hu ▸ h2) hp fun _ => hb ▸ hlen
    unfold State.workPendingFrom
    dsimp only
    rcases (s.leavePending p).needCheck_cases p none with heq | heq | ⟨hn, heq⟩ | ⟨e, n, hn, -, hcur, heq⟩
    · exact again _ rfl (by rw [heq]; rfl) (by rw [heq, hleft])
    · refine again _ rfl (by rw [heq]; rfl) ?_
      rw [heq]
      have : p ∉ l := by
        have hnodup := h.pendingNodup
        rw [hl, List.nodup_cons] at hnodup
        exact hnodup.1
      show ((s.leavePending p).plates.pendingList.filter fun q => decide (q ≠ p)) = l
      rw [hleft]
      exact List.filter_eq_self.mpr fun q hq => by simpa using fun e : q = p => this (e ▸ hq)
    · have : s.plates.builds.length = 32 := Plates.freeRecord_none hn h1.ids h1.bounded
      omega
    · obtain ⟨b, -, hb⟩ := (s.leavePending p).createBuild_builds e none n
      have hb' : ((s.leavePending p).needCheck p none).plates.builds = insertBuild b s.plates.builds := by
        rw [heq]; exact hb
      have hlen' := (insertBuild_perm b s.plates.builds).length_eq
      rw [← hb', List.length_cons] at hlen'
      rw [if_pos (by omega)]
      exact fun _ => by omega

end Sys2Proof.Machine
end


-- ==== Sys2Proof/Proofs/Evolves.lean ====
section
/-! PROOF. What the blocks of chapters 2 to 9 do to the pages and to the plate tables: they rebind records, and they keep
the tables sound. -/

namespace Sys2Proof.Machine

/-- From `s` to `t` no receive context changes, records are only rebound and freed, and sound plate tables stay sound. -/
structure Evolves (s t : State) : Prop where
  contexts : t.rx.contexts = s.rx.contexts
  store : s.store.Rebound t.store
  sound : Sound s → Sound t

variable {s t u : State}

/-- The plate ids of the current items of a list (R36). -/
def currentItems (l : List Item) : List PlateId :=
  (l.filter fun it => decide (it.cause = .none_)).map fun it => it.plate

theorem currentItems_map {l : List Item} {f : Item → Item} (hplate : ∀ it, (f it).plate = it.plate)
    (hcause : ∀ it, (f it).cause = .none_ → it.cause = .none_) :
    (currentItems (l.map f)).Sublist (currentItems l) := by
  unfold currentItems
  induction l with
  | nil => exact .refl _
  | cons a l ih =>
    simp only [List.map_cons, List.filter_cons, decide_eq_true_eq]
    by_cases hc : (f a).cause = .none_
    · rw [if_pos hc, if_pos (hcause a hc), List.map_cons, List.map_cons, hplate]
      exact ih.cons_cons _
    · rw [if_neg hc]
      split
      · exact ih.cons _
      · exact ih

/-- A sequencer that goes on with the build it held, or holds none any more. -/
theorem Holds.seq {builds : List Build} {i : Imager} {q q' : Sequencer} (h : Holds builds i q)
    (hq : q'.build = none ∨ (q'.build = q.build ∧
      (q'.state = .idle ∨ q'.state = .unloading ∨ q'.state = .fault →
        q.state = .idle ∨ q.state = .unloading ∨ q.state = .fault))) : Holds builds i q' := by
  rcases hq with hq | ⟨hq, hs⟩
  · exact ⟨fun _ => hq, fun n hn => by simp [hq] at hn⟩
  · exact ⟨fun h' => hq ▸ h.resting (hs h'), fun n hn => h.dispatched n (hq ▸ hn)⟩

/-- A dispatched build that an imager holds stays one. -/
theorem Holds.builds {builds builds' : List Build} {i : Imager} {q : Sequencer} (h : Holds builds i q)
    (hb : ∀ b ∈ builds, b.imager = some i → b.state ≠ .open_ → b.state ≠ .ready → q.build = some b.bid →
      ∃ c ∈ builds', c.bid = b.bid ∧ c.imager = some i ∧ c.state ≠ .open_ ∧ c.state ≠ .ready) :
    Holds builds' i q := by
  refine ⟨h.resting, fun n hn => ?_⟩
  obtain ⟨b, hmem, rfl, himg, ho, hr⟩ := h.dispatched n hn
  exact hb b hmem himg ho hr hn

theorem Sound.of_same (h : Sound s) (hp : t.plates = s.plates) (hc : ∀ i, (t.channel i).seq = (s.channel i).seq)
    (hl : (currentItems t.line.items).Sublist (currentItems s.line.items)) : Sound t :=
  ⟨h.plates.of_plates hp hl, by simp only [PendingFull, hp]; exact h.full, fun i => by rw [hp, hc]; exact h.holds i⟩

/-- The build that an imager holds is a dispatched one that names it; an imager without a build names no record. -/
theorem Sound.held (h : Sound s) {i : Imager} {b : Build} (hb : b ∈ s.plates.builds)
    (he : b.bid = (s.channel i).seq.build.getD Config.maxBuilds) :
    b.imager = some i ∧ b.state ≠ .open_ ∧ b.state ≠ .ready := by
  cases hq : (s.channel i).seq.build with
  | none =>
    rw [hq] at he
    exact absurd (h.plates.bounded b hb) (by rw [he]; decide)
  | some n =>
    obtain ⟨c, hc, hcn, hrest⟩ := (h.holds i).dispatched n hq
    rw [hq] at he
    rw [h.plates.eq_of_bid hb hc (he.trans hcn.symm)]
    exact hrest

namespace Evolves

theorem refl : Evolves s s := ⟨rfl, .refl, id⟩

theorem trans (h : Evolves s t) (h' : Evolves t u) : Evolves s u :=
  ⟨h'.contexts.trans h.contexts, h.store.trans h'.store, h'.sound ∘ h.sound⟩

/-- Changes of what is neither page, plate table, sequencer nor item. -/
theorem frame (h : Evolves s t) (hx : u.rx = t.rx := by simp) (hs : u.store = t.store := by simp)
    (hp : u.plates = t.plates := by simp) (hc : u.chan = t.chan := by simp)
    (hl : u.line.items = t.line.items := by simp) : Evolves s u :=
  h.trans ⟨congrArg Receive.contexts hx, by rw [hs]; exact .refl,
    fun hsound => hsound.of_same hp (fun i => by simp only [State.channel, hc])
    (by rw [hl])⟩

/-- The items change, none coming back from its retirement. -/
theorem items (h : Evolves s t) (hl : (currentItems u.line.items).Sublist (currentItems t.line.items))
    (hx : u.rx = t.rx := by simp) (hs : u.store = t.store := by simp) (hp : u.plates = t.plates := by simp)
    (hc : u.chan = t.chan := by simp) : Evolves s u :=
  h.trans ⟨congrArg Receive.contexts hx, by rw [hs]; exact .refl,
    fun hsound => hsound.of_same hp (fun i => by simp only [State.channel, hc]) hl⟩

theorem raise (h : Evolves s t) (src : Source) (c : ConditionBody) : Evolves s (t.raise src c) := h.frame

theorem offer (h : Evolves s t) (b : EventBody) : Evolves s (t.offer b) := h.frame

/-- The store alone changes, by rebinding. -/
theorem rebind (h : Evolves s t) {w : Store} (hw : t.store.Rebound w) : Evolves s { t with store := w } :=
  h.trans ⟨rfl, hw, fun hsound => hsound.of_same rfl (fun _ => rfl) (.refl _)⟩

theorem requestPort (h : Evolves s t) (r : Requester) : Evolves s (t.requestPort r) :=
  h.rebind (Store.Rebound.refl.same rfl rfl rfl)

theorem withdrawPort (h : Evolves s t) (r : Requester) : Evolves s (t.withdrawPort r) :=
  h.rebind (Store.Rebound.refl.same rfl rfl rfl)

theorem dropRefs (h : Evolves s t) (bs : List Binding) : Evolves s { t with store := t.store.dropRefs bs } :=
  h.rebind (Store.Rebound.refl.dropRefs bs)

/-! ### Channels -/

theorem setChannel (h : Evolves s t) (i : Imager) (c : Channel)
    (hq : c.seq.build = none ∨ (c.seq.build = (t.channel i).seq.build ∧
      (c.seq.state = .idle ∨ c.seq.state = .unloading ∨ c.seq.state = .fault →
        (t.channel i).seq.state = .idle ∨ (t.channel i).seq.state = .unloading ∨ (t.channel i).seq.state = .fault))) :
    Evolves s (t.setChannel i c) := by
  refine h.trans ⟨by simp, by simpa using .refl, fun hsound => ⟨hsound.plates.of_plates (by simp) (.refl _), hsound.full,
    fun j => ?_⟩⟩
  by_cases hj : j = i
  · subst hj
    rw [State.channel_setChannel]
    exact (hsound.holds j).seq hq
  · rw [State.channel_setChannel_other _ _ _ _ hj]
    exact hsound.holds j

theorem setOther (h : Evolves s t) (i : Imager) {c : Channel} (hq : c.seq = (t.channel i).seq) :
    Evolves s (t.setChannel i c) :=
  h.setChannel i c (.inr (by rw [hq]; exact ⟨rfl, id⟩))

theorem modifyOut (h : Evolves s t) (i : Imager) (f : ImagerOut → ImagerOut) : Evolves s (t.modifyOut i f) :=
  h.setOther i rfl

theorem modifySeq (h : Evolves s t) (i : Imager) {f : Sequencer → Sequencer}
    (hf : ∀ q, (f q).build = none ∨ ((f q).build = q.build ∧
      ((f q).state = .idle ∨ (f q).state = .unloading ∨ (f q).state = .fault →
        q.state = .idle ∨ q.state = .unloading ∨ q.state = .fault))) : Evolves s (t.modifySeq i f) :=
  h.setChannel i _ (hf _)

theorem putComposer (h : Evolves s t) (i : Imager) (r : Composer × Bool) : Evolves s (t.putComposer i r) := by
  have h' := h.setOther i (c := { t.channel i with composer := r.1 }) rfl
  unfold State.putComposer
  dsimp only
  split
  · exact h'.requestPort _
  · exact h'

theorem endJob (h : Evolves s t) (i : Imager) : Evolves s (t.endJob i) :=
  Evolves.withdrawPort (h.setOther i (c := { t.channel i with composer := (t.channel i).composer.endJob }) rfl) _

/-! ### Entries, builds and the build-need check -/

theorem modifyEntry (h : Evolves s t) (p : PlateId) {f : MapEntry → MapEntry} (hid : ∀ e, (f e).id = e.id)
    (hcls : ∀ e, (f e).cls = e.cls) : Evolves s (t.modifyEntry p f) :=
  h.trans ⟨rfl, .refl, fun hsound =>
    ⟨hsound.plates.of_same rfl rfl rfl (fun b _ => t.classOfPlate_modifyEntry p hid hcls b.plate) hsound.plates.current,
      hsound.full, hsound.holds⟩⟩

theorem needCheck (h : Evolves s t) (p : PlateId) (w : Option (PageKey × Nat)) : Evolves s (t.needCheck p w) := by
  refine h.trans ⟨by simp, ?_, fun hsound => ⟨hsound.plates.needCheck p w, hsound.plates.needCheck_full hsound.full p w,
    fun i => ?_⟩⟩
  · rcases t.needCheck_cases p w with heq | heq | ⟨-, heq⟩ | ⟨e, n, -, -, -, heq⟩ <;> rw [heq]
    · exact .refl
    · exact .refl
    · simpa using .refl
    · have : ((t.createBuild e w n).leavePending p).store =
          t.store.addRefs (e.positions.map (bindPosition t.store w)) := by
        simp only [State.leavePending_frame, State.createBuild]
        split <;> simp
      rw [this]
      exact Store.Rebound.refl.addRefs _
  · have : ((t.needCheck p w).channel i) = t.channel i := by simp [State.channel]
    rw [this]
    exact (hsound.holds i).builds fun b hb himg ho hr _ => ⟨b, State.mem_needCheck hb p w, rfl, himg, ho, hr⟩

theorem replateAll (h : Evolves s t) (l : List PlateId) : Evolves s (t.replateAll l) := by
  induction l generalizing t with
  | nil => exact h
  | cons p l ih => exact ih ((h.modifyEntry p (f := fun e => { e with positions := e.positions.map fun q => { q with imaged := 0 } })
      (fun _ => rfl) fun _ => rfl).needCheck p none)

/-- The record of the build that an imager holds changes while the imager goes on holding it (R35). -/
theorem modifyHeld (h : Evolves s t) (i : Imager) {n : Nat} {f : Build → Build}
    (hn : n = (t.channel i).seq.build.getD Config.maxBuilds) (hbid : ∀ b, (f b).bid = b.bid)
    (hplate : ∀ b, (f b).plate = b.plate) (hcause : ∀ b, (f b).cause = .none_ → b.cause = .none_)
    (himg : ∀ b, (f b).imager = b.imager) (hstate : ∀ b, (f b).state ≠ .open_ ∧ (f b).state ≠ .ready) :
    Evolves s (t.modifyBuild n f) := by
  refine h.trans ⟨rfl, .refl, fun hsound => ⟨?_, ?_, fun j => ?_⟩⟩
  · exact hsound.plates.modifyDispatched hbid hplate hcause
      (fun b hb he => (hsound.held hb (he.trans hn)).2.2) fun b _ _ => hstate b
  · exact fun hne => by simpa [State.modifyBuild] using hsound.full hne
  · refine (hsound.holds j).builds fun b hb hbi ho hr _ => ⟨if b.bid = n then f b else b, List.mem_map_of_mem hb, ?_⟩
    split
    · exact ⟨hbid b, (himg b).trans hbi, hstate b⟩
    · exact ⟨rfl, hbi, ho, hr⟩

/-- A dispatched build is retired (R45, R52). -/
theorem retireRecord (h : Evolves s t) {b : Build} {c : Cause} (hb : b ∈ t.plates.builds)
    (hw : b.state.waits = false) (hc : c ≠ .none_) :
    Evolves s (t.modifyBuild b.bid fun b => { b with cause := c }) := by
  have hstate : b.state ≠ .open_ ∧ b.state ≠ .ready := by
    constructor <;> intro e <;> simp [e, BuildState.waits] at hw
  refine h.trans ⟨rfl, .refl, fun hsound => ⟨?_, ?_, fun j => ?_⟩⟩
  · refine hsound.plates.modifyDispatched (fun _ => rfl) (fun _ => rfl) (fun _ he => absurd he hc) ?_ ?_ <;>
      intro b' hb' he <;> rw [hsound.plates.eq_of_bid hb' hb he]
    · exact hstate.2
    · exact hstate
  · exact fun hne => by simpa [State.modifyBuild] using hsound.full hne
  · refine (hsound.holds j).builds fun b' hb' hbi ho hr _ =>
      ⟨if b'.bid = b.bid then { b' with cause := c } else b', List.mem_map_of_mem hb', ?_⟩
    split <;> exact ⟨rfl, hbi, ho, hr⟩

end Evolves

/-! ### Freed records -/

/-- A build that no imager holds leaves the table, its record is free and the pending list is worked (R42, R50, R52). -/
theorem Sound.removeBuild (h : Sound s) {b : Build} (hb : b ∈ s.plates.builds)
    (hheld : ∀ i, (s.channel i).seq.build ≠ some b.bid) : Sound (s.removeBuild b) := by
  have hfree : PlatesSound none ({ s.freeBuild b.bid with store := (s.freeBuild b.bid).store.dropRefs b.bindings } : State) :=
    (h.plates.freeBuild b.bid).of_plates rfl (.refl _)
  refine ⟨hfree.workPendingFrom _, hfree.workPendingFrom_full rfl fun hne => ?_, fun i => ?_⟩
  · have hlen := (perm_filter_bid h.plates.ids hb).length_eq
    have := h.full hne
    simp only [List.length_cons] at hlen
    simp only [State.freeBuild]
    omega
  · have hchan : (s.removeBuild b).channel i = s.channel i := by simp [State.channel]
    rw [hchan]
    refine (h.holds i).builds fun c hc hci ho hr hq => ⟨c, State.mem_workPendingFrom ?_ _, rfl, hci, ho, hr⟩
    exact List.mem_filter.mpr ⟨hc, by simpa using fun e : c.bid = b.bid => hheld i (e ▸ hq)⟩

theorem State.workPendingFrom_store (l : List PlateId) (s : State) : s.store.Rebound (s.workPendingFrom l).store := by
  induction l generalizing s with
  | nil => exact .refl
  | cons p l ih =>
    have h' : s.store.Rebound ((s.leavePending p).needCheck p none).store :=
      (Evolves.refl.needCheck (s := s.leavePending p) p none).store
    unfold State.workPendingFrom
    dsimp only
    split
    · exact h'
    · exact h'.trans (ih _)

theorem State.removeBuild_store (b : Build) (s : State) : s.store.Rebound (s.removeBuild b).store :=
  Store.Rebound.trans (u := s.store.dropRefs b.bindings) (Store.Rebound.refl.dropRefs _)
    (State.workPendingFrom_store _ { s.freeBuild b.bid with store := (s.freeBuild b.bid).store.dropRefs b.bindings })

theorem State.currentBuild_mem {p : PlateId} {b : Build} (h : s.currentBuild p = some b) :
    b ∈ s.plates.builds ∧ b.plate = p ∧ b.cause = .none_ :=
  ⟨List.mem_of_find?_eq_some h, by simpa using List.find?_some h⟩

theorem State.build_mem {n : Nat} {b : Build} (h : s.build n = some b) : b ∈ s.plates.builds ∧ b.bid = n :=
  ⟨List.mem_of_find?_eq_some h, by simpa using List.find?_some h⟩

/-- A waiting build is held by no imager (R35). -/
theorem Sound.waiting_not_held (h : Sound s) {b : Build} (hb : b ∈ s.plates.builds) (hw : b.state.waits = true)
    (i : Imager) : (s.channel i).seq.build ≠ some b.bid := by
  intro hq
  obtain ⟨-, ho, hr⟩ := h.held (i := i) hb (by rw [hq]; rfl)
  cases hs : b.state <;> simp [hs, BuildState.waits] at hw ho hr

theorem Evolves.removeWaiting (h : Evolves s t) {b : Build} (hb : b ∈ t.plates.builds) (hw : b.state.waits = true) :
    Evolves s (t.removeBuild b) :=
  h.trans ⟨by simp, t.removeBuild_store b, fun hsound => hsound.removeBuild hb (hsound.waiting_not_held hb hw)⟩

/-- A dispatched build that its imager has given up waits again, or is removed when it is retired (R50, R58). -/
theorem Sound.giveUpBuild (h : Sound s) {n : Nat} (hn : ∀ b ∈ s.plates.builds, b.bid = n → b.state ≠ .ready)
    (hheld : ∀ i, (s.channel i).seq.build ≠ some n) : Sound (s.giveUpBuild n) := by
  unfold State.giveUpBuild
  split
  · exact h
  · rename_i b hb
    obtain ⟨hmem, rfl⟩ := State.build_mem hb
    split
    · refine ⟨?_, ?_, fun i => ?_⟩
      · refine PlatesSound.rejoinQueue ((h.plates.exempt hn).modifyBuild (fun _ => rfl) (fun _ => rfl) (fun _ => id)
          fun _ _ _ _ => rfl) ⟨_, List.mem_map_of_mem hmem, ?_⟩
        simp
      · exact fun hne => by simpa [State.modifyBuild] using h.full hne
      · refine (h.holds i).builds fun c hc hci ho hr hq => ⟨c, List.mem_map.mpr ⟨c, hc, if_neg ?_⟩, rfl, hci, ho, hr⟩
        exact fun e => hheld i (e ▸ hq)
    · exact h.removeBuild hmem hheld

theorem State.giveUpBuild_store (n : Nat) (s : State) : s.store.Rebound (s.giveUpBuild n).store := by
  unfold State.giveUpBuild
  split
  · exact .refl
  · split
    · exact .refl
    · exact s.removeBuild_store _

end Sys2Proof.Machine
end


-- ==== Sys2Proof/Proofs/Imagers.lean ====
section
/-! PROOF. The operations of the imagers, the Exposure Scheduler and the Plate Composer rebind records only and keep the
plate tables sound (chapters 2, 3 and 6). -/

namespace Sys2Proof.Machine

variable {s t : State}

theorem State.seq_endJob (i j : Imager) (s : State) : ((s.endJob i).channel j).seq = (s.channel j).seq := by
  show ((s.setChannel i { s.channel i with composer := (s.channel i).composer.endJob }).channel j).seq = _
  by_cases hj : j = i
  · subst hj
    rw [State.channel_setChannel]
  · rw [State.channel_setChannel_other _ _ _ _ hj]

theorem State.seq_modifyOut (i j : Imager) (f : ImagerOut → ImagerOut) (s : State) :
    ((s.modifyOut i f).channel j).seq = (s.channel j).seq := by
  by_cases hj : j = i
  · subst hj
    rw [State.channel_modifyOut]
  · rw [State.modifyOut, State.channel_setChannel_other _ _ _ _ hj]

theorem State.seq_putComposer (i j : Imager) (r : Composer × Bool) (s : State) :
    ((s.putComposer i r).channel j).seq = (s.channel j).seq := by
  have h : ((s.setChannel i { s.channel i with composer := r.1 }).channel j).seq = (s.channel j).seq := by
    by_cases hj : j = i
    · subst hj
      rw [State.channel_setChannel]
    · rw [State.channel_setChannel_other _ _ _ _ hj]
  unfold State.putComposer
  dsimp only
  split <;> exact h

namespace Evolves

/-! ### The end of an exposure (R123, R124) -/

theorem buildExits (h : Evolves s t) (i : Imager) {n : Nat} (hn : n = (t.channel i).seq.build.getD Config.maxBuilds)
    (faulty : Bool) : Evolves s (t.buildExits n faulty) := by
  unfold State.buildExits
  split
  · exact h
  · split
    · exact (h.modifyHeld i hn (f := fun b => { b with state := .exiting, cause := .faulty }) (fun _ => rfl)
        (fun _ => rfl) (fun _ he => by simp at he) (fun _ => rfl) fun _ => by simp).needCheck _ none
    · exact h.modifyHeld i hn (f := fun b => { b with state := .exiting }) (fun _ => rfl) (fun _ => rfl) (fun _ => id)
        (fun _ => rfl) fun _ => by simp

theorem endExposure (h : Evolves s t) (i : Imager) (kind : EndKind) : Evolves s (t.endExposure i kind) := by
  have hjob := (h.modifyOut i fun o => { o with drumRun := false }).endJob i
  have hexit := hjob.buildExits i (n := (t.channel i).seq.build.getD Config.maxBuilds)
    (by rw [State.seq_endJob, State.seq_modifyOut]) kind.faulty
  have hwait := hexit.modifySeq i (f := fun q =>
    { q with state := .exitWait, loadDeadline := none, spinDeadline := none, revolution := none,
             emissionPending := false, stepDue := false }) fun q => .inr (by simp)
  unfold State.endExposure
  dsimp only
  split
  · exact hwait
  · exact hwait.frame

theorem retireHeld (h : Evolves s t) (i : Imager) : Evolves s (t.retireHeld i) := by
  have h' := h.modifySeq i (f := fun q => { q with retired := true }) fun q => .inr ⟨rfl, id⟩
  unfold State.retireHeld
  dsimp only
  split
  · exact h'.endExposure i _
  · split
    · exact h'
    · exact h'.endExposure i _
  · exact h'

theorem retireBuild (h : Evolves s t) {b : Build} {c : Cause} (hb : b ∈ t.plates.builds)
    (hw : b.state.waits = false) (hc : c ≠ .none_) : Evolves s (t.retireBuild b c) := by
  have h' := h.retireRecord hb hw hc
  unfold State.retireBuild
  dsimp only
  split
  · exact h'
  · exact h'.retireHeld _

/-! ### Loading, spin-up, exposing (R114 to R122) -/

theorem enterSpinup (h : Evolves s t) (i : Imager) : Evolves s (t.enterSpinup i) :=
  h.setChannel i _ (.inr (by simp))

theorem clamped (h : Evolves s t) (i : Imager) : Evolves s (t.clamped i) := by
  unfold State.clamped
  dsimp only
  split
  · have h' := (h.modifyOut i fun o => { o with load := false }).modifySeq i
      (f := fun q => { q with loadDeadline := none }) fun q => .inr ⟨rfl, id⟩
    split
    · exact h'.endExposure i _
    · exact h'.enterSpinup i
  · exact h

theorem enterFault (h : Evolves s t) (i : Imager) (c : FaultCause) (p : Option (PlateId × Nat)) :
    Evolves s (t.enterFault i c p) := by
  unfold State.enterFault
  refine Evolves.raise (Evolves.endJob (h.setChannel i _ ?_) i) _ _
  exact .inl rfl

theorem writeOrSkip (h : Evolves s t) (i : Imager) (v : Bool) : Evolves s (t.writeOrSkip i v) := by
  unfold State.writeOrSkip
  dsimp only
  split
  · exact h.setChannel i _ (.inr ⟨rfl, id⟩)
  · have h' := h.setChannel i { t.channel i with seq := { (t.channel i).seq with
      revolution := some .skipped, skipRun := (t.channel i).seq.skipRun + 1,
      skipped := saturate16 (t.channel i).seq.skipped } } (.inr ⟨rfl, id⟩)
    split
    · exact h'.endExposure i _
    · exact h'

theorem orderStep (h : Evolves s t) (i : Imager) : Evolves s (t.orderStep i) :=
  h.setChannel i _ (.inr ⟨rfl, id⟩)

theorem exposingIndex (h : Evolves s t) (i : Imager) (v : Bool) : Evolves s (t.exposingIndex i v) := by
  unfold State.exposingIndex
  dsimp only
  split
  · exact h.endExposure i _
  · split
    · split
      · exact h.endExposure i _
      · exact (h.orderStep i).writeOrSkip i v
    · exact h.writeOrSkip i v

theorem spinupCompletes (h : Evolves s t) (i : Imager) : Evolves s (t.spinupCompletes i) := by
  have h' := h.modifySeq i (f := fun q =>
    { q with state := .exposing, spinDeadline := none, revolution := none, emissionPending := false, stepDue := false })
    fun q => .inr (by simp)
  exact (h'.modifyHeld i (n := (t.channel i).seq.build.getD Config.maxBuilds) (f := fun b => { b with state := .exposing })
    (by rw [State.channel_modifySeq]) (fun _ => rfl) (fun _ => rfl) (fun _ => id) (fun _ => rfl)
    fun _ => by simp).exposingIndex i true

theorem spinupIndex (h : Evolves s t) (i : Imager) (v : Bool) : Evolves s (t.spinupIndex i v) := by
  unfold State.spinupIndex
  dsimp only
  generalize (if v = true then _ else 0) = run
  have h' := h.modifySeq i (f := fun q => { q with validRun := run }) fun q => .inr ⟨rfl, id⟩
  split
  · exact h'.spinupCompletes i
  · exact h'

theorem indexPulse (h : Evolves s t) (i : Imager) : Evolves s (t.indexPulse i) := by
  have h' := h.setOther i (c := { t.channel i with drum := (t.channel i).drum.index (t.channel i).settings }) rfl
  unfold State.indexPulse
  dsimp only
  split
  · exact h'.spinupIndex i _
  · exact h'.exposingIndex i _
  · exact h'

theorem emissionEnds (h : Evolves s t) (i : Imager) : Evolves s (t.emissionEnds i) := by
  unfold State.emissionEnds
  dsimp only
  split
  · split
    · have h' := (h.modifySeq i (f := fun q => { q with emissionPending := false, written := q.written + 1 })
        fun q => .inr ⟨rfl, id⟩).putComposer i
      split
      · exact (h' _).endExposure i _
      · split
        · exact (h' _).endExposure i _
        · exact (h' _).modifySeq i (f := fun q => { q with stepDue := true }) fun q => .inr ⟨rfl, id⟩
    · exact h
  · exact h

theorem pulseEnds (h : Evolves s t) (i : Imager) : Evolves s (t.pulseEnds i) := by
  unfold State.pulseEnds
  dsimp only
  split
  · exact h.modifyOut i _
  · exact h

theorem stalls (h : Evolves s t) (i : Imager) : Evolves s (t.stalls i) := by
  unfold State.stalls
  dsimp only
  split
  · exact h.endExposure i _
  · exact h

theorem encoder (h : Evolves s t) (i : Imager) (ph : Phase) : Evolves s (t.encoder i ph) :=
  h.setOther i rfl

theorem unloaded (h : Evolves s t) (i : Imager) : Evolves s (t.unloaded i) := by
  unfold State.unloaded
  split
  · exact Evolves.frame ((h.modifyOut i fun o => { o with eject := false }).modifySeq i
      (f := fun q => { q with state := .idle, build := none }) fun q => .inl rfl)
  · exact h

end Evolves

/-! ### Faults (R115, R117) -/

theorem State.seq_enterFault (i : Imager) (c : FaultCause) (p : Option (PlateId × Nat)) (s : State) :
    ((s.enterFault i c p).channel i).seq.build = none ∧
    ∀ j, j ≠ i → ((s.enterFault i c p).channel j).seq = (s.channel j).seq := by
  unfold State.enterFault
  dsimp only
  constructor
  · rw [State.channel_raise, State.seq_endJob, State.channel_setChannel]
  · intro j hj
    rw [State.channel_raise, State.seq_endJob, State.channel_setChannel_other _ _ _ _ hj]

theorem Evolves.faultAndGiveUp (h : Evolves s t) (i : Imager) (c : FaultCause) :
    Evolves s (t.faultAndGiveUp i c) := by
  have hfault := (Evolves.refl (s := t)).enterFault i c (heldPlate t.plates.builds (t.channel i).seq)
  refine h.trans ?_
  unfold State.faultAndGiveUp
  dsimp only
  split
  · exact hfault
  · rename_i n hn
    refine ⟨by simp, hfault.store.trans (State.giveUpBuild_store _ _), fun hsound => ?_⟩
    obtain ⟨hnone, hother⟩ := t.seq_enterFault i c (heldPlate t.plates.builds (t.channel i).seq)
    obtain ⟨b, hb, rfl, himg, -, hr⟩ := (hsound.holds i).dispatched n hn
    refine (hfault.sound hsound).giveUpBuild (fun b' hb' he => ?_) fun j hj => ?_
    · simp only [State.enterFault_frame] at hb'
      rw [hsound.plates.eq_of_bid hb' hb he]
      exact hr
    · by_cases e : j = i
      · rw [e, hnone] at hj
        cases hj
      · rw [hother j e] at hj
        have := (hsound.held (i := j) hb (by rw [hj]; rfl)).1
        rw [himg] at this
        exact e (Option.some.inj this).symm

namespace Evolves

theorem loadExpires (h : Evolves s t) (i : Imager) : Evolves s (t.loadExpires i) := by
  unfold State.loadExpires
  dsimp only
  split
  · exact h.faultAndGiveUp i _
  · exact h

theorem spinupExpires (h : Evolves s t) (i : Imager) : Evolves s (t.spinupExpires i) := by
  unfold State.spinupExpires
  dsimp only
  split
  · exact h.faultAndGiveUp i _
  · exact h

end Evolves

/-! ### Dispatch (R66 to R68) -/

/-- Entry into LOADING changes the imager's channel and the port alone; its sequencer holds the build (R114). -/
theorem State.enterLoading_tables (i : Imager) (n : Nat) (j : Job) (s : State) :
    ((s.enterLoading i n j).channel i).seq.build = some n ∧
    ((s.enterLoading i n j).channel i).seq.state = .loading ∧
    (∀ k, k ≠ i → ((s.enterLoading i n j).channel k).seq = (s.channel k).seq) ∧
    s.store.Rebound (s.enterLoading i n j).store := by
  unfold State.enterLoading
  dsimp only
  refine ⟨?_, ?_, fun k hk => ?_, ?_⟩
  · rw [State.seq_putComposer, State.channel_modifySeq]
  · rw [State.seq_putComposer, State.channel_modifySeq]
  · rw [State.seq_putComposer, State.modifySeq, State.channel_setChannel_other _ _ _ _ hk, State.seq_modifyOut]
  · exact ((Evolves.refl (s := s.modifyOut i _ |>.modifySeq i _)).putComposer i _).store

/-- A dispatch is the entry into LOADING after the build has left the queue and is ASSIGNED (R68). -/
theorem State.dispatchBuild_enters (i : Imager) (b : Build) (e : MapEntry) (s : State) :
    ∃ (u : State) (j : Job) (f : Build → Build), s.dispatchBuild i b e = u.enterLoading i b.bid j ∧
      u.store = s.store ∧ u.chan = s.chan ∧
      u.plates = (State.modifyBuild b.bid f { s with plates := { s.plates with
        queue := s.plates.queue.filter fun m => decide (m ≠ b.bid) } }).plates ∧
      ∀ c, (f c).bid = c.bid ∧ (f c).plate = c.plate ∧ (f c).cause = c.cause ∧ (f c).imager = some i ∧
        (f c).state = .assigned := by
  let press := s.assigned b.plate.line
  let fan := ((press.bind s.press).map fun p => p.fans.getD b.plate.across 0).getD 0
  unfold State.dispatchBuild
  dsimp only
  refine ⟨_, _, fun c => { c with
    imager := some i, press := press, fan := some fan, size := some ((s.sizeOf e.size).getD ⟨0, 0⟩), state := .assigned },
    rfl, ?_, ?_, ?_, fun c => ⟨rfl, rfl, rfl, rfl, rfl⟩⟩
  all_goals
    split
    · simp only [State.raise_frame]
      rfl
    · rfl

/-- A READY build is dispatched to an imager (R68). -/
theorem Evolves.dispatchBuild (h : Evolves s t) (i : Imager) {b : Build} (e : MapEntry) (hb : b ∈ t.plates.builds)
    (hq : b.bid ∈ t.plates.queue) : Evolves s (t.dispatchBuild i b e) := by
  obtain ⟨u, j, f, heq, hustore, huchan, huplates, hf⟩ := t.dispatchBuild_enters i b e
  obtain ⟨hbuild, hstate, hother', hstore'⟩ := u.enterLoading_tables i b.bid j
  rw [← heq] at hbuild hstate hother' hstore'
  have hother : ∀ k, k ≠ i → ((t.dispatchBuild i b e).channel k).seq = (t.channel k).seq := fun k hk => by
    rw [hother' k hk, State.channel, huchan, State.channel]
  have hstore : t.store.Rebound (t.dispatchBuild i b e).store := hustore ▸ hstore'
  have hp : (t.dispatchBuild i b e).plates = (State.modifyBuild b.bid f { t with plates := { t.plates with
      queue := t.plates.queue.filter fun m => decide (m ≠ b.bid) } }).plates := by
    rw [heq, ← huplates]
    simp
  refine h.trans ⟨by simp, hstore, fun hsound => ?_⟩
  have hready : b.state = .ready := by
    obtain ⟨-, c, hc, he, hr⟩ := (hsound.plates.queued _).mp hq
    rw [hsound.plates.eq_of_bid hb hc he.symm]
    exact hr
  have hdeq := hsound.plates.dequeue b.bid
  have hsent := hdeq.modifyBuild (fun c => (hf c).1) (fun c => (hf c).2.1) (fun c hc => (hf c).2.2.1 ▸ hc)
    fun c _ _ hw => by simp [(hf c).2.2.2.2] at hw
  have hsent : PlatesSound none _ := hsent.unexempt fun c hc he => by
    obtain ⟨d, -, rfl⟩ := List.mem_map.mp (show c ∈ t.plates.builds.map _ from hc)
    by_cases hd : d.bid = b.bid
    · rw [if_pos hd, (hf d).2.2.2.2]
      simp
    · rw [if_neg hd] at he
      exact absurd he hd
  have hbuilds : (t.dispatchBuild i b e).plates.builds =
      t.plates.builds.map fun c => if c.bid = b.bid then f c else c := by rw [hp]; rfl
  refine ⟨hsent.of_plates hp (by simp), fun hne => ?_, fun j => ?_⟩
  · rw [hbuilds, List.length_map]
    exact hsound.full fun h0 => hne (by simpa using h0)
  · by_cases hj : j = i
    · subst hj
      refine ⟨fun hs => by simp [hstate] at hs, fun n hn => ?_⟩
      rw [hbuild] at hn
      obtain rfl := Option.some.inj hn
      refine ⟨f b, hbuilds ▸ List.mem_map.mpr ⟨b, hb, if_pos rfl⟩, (hf b).1, (hf b).2.2.2.1, ?_⟩
      rw [(hf b).2.2.2.2]
      simp
    · rw [hother j hj]
      refine (hsound.holds j).builds fun c hc hci ho hr _ =>
        ⟨c, hbuilds ▸ List.mem_map.mpr ⟨c, hc, if_neg fun he => ?_⟩, rfl, hci, ho, hr⟩
      rw [hsound.plates.eq_of_bid hc hb he] at hr
      exact hr hready

theorem Evolves.passFor (h : Evolves s t) (i : Imager) : Evolves s (t.passFor i) := by
  unfold State.passFor
  split
  · split
    · exact h
    · rename_i b hb
      split
      · exact h
      · obtain ⟨n, hn, hb⟩ := Option.bind_eq_some_iff.mp hb
        obtain ⟨hmem, rfl⟩ := State.build_mem hb
        exact h.dispatchBuild i _ hmem (List.mem_of_find?_eq_some hn)
  · exact h

theorem Evolves.dispatchPass (h : Evolves s t) : Evolves s t.dispatchPass :=
  Evolves.frame (t := (t.passFor .a).passFor .b) ((h.passFor .a).passFor .b) rfl rfl rfl rfl rfl

theorem Evolves.makePass (h : Evolves s t) : Evolves s t.makePass := by
  unfold State.makePass
  split
  · exact h.dispatchPass
  · exact h

/-! ### Rebinding (R44) -/

/-- A current build that waits is brought up to a new version (R44). -/
theorem Evolves.rebindBuild (h : Evolves s t) (e : MapEntry) {b : Build} (k : PageKey) (v : Nat)
    (hb : b ∈ t.plates.builds) (hw : b.state.waits = true) : Evolves s (t.rebindBuild e b k v) := by
  have hstore := (Store.Rebound.refl (t := t.store)).rebindPositions k v e.positions b.bindings
  refine h.trans ⟨by simp, ?_, fun hsound => ?_⟩
  · unfold State.rebindBuild
    dsimp only
    split
    · simpa using hstore
    · exact hstore
  · unfold State.rebindBuild
    dsimp only
    generalize rebindPositions k v e.positions b.bindings t.store = r
    generalize hready : (decide (b.state = .open_) && !(r.1.any fun x => decide (x = .waiting))) = ready
    generalize hu : ({ t with store := r.2 } : State) = u
    have hus : Sound u := hu ▸ hsound.of_same rfl (fun _ => rfl) (.refl _)
    have hub : b ∈ u.plates.builds := hu ▸ hb
    have hnot := hus.waiting_not_held hub hw
    have holds : ∀ (f : Build → Build) (i : Imager),
        Holds (u.plates.builds.map fun c => if c.bid = b.bid then f c else c) i (u.channel i).seq := fun f i =>
      (hus.holds i).builds fun c hc hci ho hr hq => ⟨c, List.mem_map.mpr ⟨c, hc, if_neg fun he : c.bid = b.bid => hnot i (by rw [← he]; exact hq)⟩,
        rfl, hci, ho, hr⟩
    have full : ∀ f, PendingFull (u.modifyBuild b.bid f) := fun f hne => by
      simpa [State.modifyBuild] using hus.full hne
    cases ready with
    | true =>
      have hopen : b.state = .open_ := by
        simp only [Bool.and_eq_true, decide_eq_true_eq] at hready
        exact hready.1
      rw [if_pos rfl]
      refine ⟨PlatesSound.joinQueue ((hus.plates.exempt fun c hc he => ?_).modifyBuild (fun _ => rfl) (fun _ => rfl)
        (fun _ => id) fun c hc he _ => ?_) ⟨_, List.mem_map_of_mem hub, ?_⟩, full _, holds _⟩
      · rw [hus.plates.eq_of_bid hc hub he, hopen]
        simp
      · rw [hus.plates.eq_of_bid hc hub he]
        exact hus.plates.waiting b hub (.inl hopen)
      · simp
    | false =>
      rw [if_neg (by simp)]
      refine ⟨?_, full _, holds _⟩
      exact hus.plates.modifyRecord (.inr fun _ => rfl) (fun _ => rfl) (fun _ => rfl) (fun _ => id)
        fun c hc _ hw => hus.plates.waiting c hc hw

end Sys2Proof.Machine
end


-- ==== Sys2Proof/Proofs/LineItems.lean ====
section
/-! PROOF. The completion notice, the line and the stations rebind records only and keep the plate tables sound
(chapters 2, 5, 7 to 9). -/

namespace Sys2Proof.Machine

variable {s t u : State}

namespace Evolves

/-! ### Items (R132, R149) -/

/-- Every item changes, of the same plate, none coming back from its retirement. -/
theorem mapItems (h : Evolves s t) {f : Item → Item} (hl : u.line.items = t.line.items.map f)
    (hplate : ∀ it, (f it).plate = it.plate) (hcause : ∀ it, (f it).cause = .none_ → it.cause = .none_)
    (hx : u.rx = t.rx := by simp) (hs : u.store = t.store := by simp) (hp : u.plates = t.plates := by simp)
    (hc : u.chan = t.chan := by simp) : Evolves s u :=
  h.items (hl ▸ currentItems_map hplate hcause) hx hs hp hc

/-- The line changes in its items alone as above, or not even in these. -/
theorem setLine (h : Evolves s t) {l : Line} (hl : (currentItems l.items).Sublist (currentItems t.line.items)) :
    Evolves s { t with line := l } :=
  h.items hl rfl rfl rfl rfl

theorem setPunch (h : Evolves s t) (p : Punch) : Evolves s { t with punch := p } := h.frame rfl rfl rfl rfl rfl

theorem setBend (h : Evolves s t) (b : Bend) : Evolves s { t with bend := b } := h.frame rfl rfl rfl rfl rfl

theorem setSorter (h : Evolves s t) (r : Sorter) : Evolves s { t with sorter := r } := h.frame rfl rfl rfl rfl rfl

theorem modifyItem (h : Evolves s t) (n : Nat) {f : Item → Item} (hplate : ∀ it, (f it).plate = it.plate)
    (hcause : ∀ it, (f it).cause = .none_ → it.cause = .none_) : Evolves s (t.modifyItem n f) := by
  refine h.mapItems (f := fun it => if it.order = n then f it else it) rfl (fun it => ?_) (fun it => ?_) rfl rfl rfl rfl
  · split
    · exact hplate it
    · rfl
  · split
    · exact hcause it
    · exact id

/-- An item changes in fields other than its plate and its retirement. -/
theorem moveItem (h : Evolves s t) (n : Nat) {f : Item → Item} (hf : ∀ it, (f it).plate = it.plate ∧ (f it).cause = it.cause) :
    Evolves s (t.modifyItem n f) :=
  h.modifyItem n (fun it => (hf it).1) fun it hc => (hf it).2 ▸ hc

theorem deleteItem (h : Evolves s t) (n : Nat) : Evolves s (t.deleteItem n) :=
  h.items ((List.filter_sublist.filter _).map _) rfl rfl rfl rfl

theorem retireItem (h : Evolves s t) (n : Nat) {c : Cause} (hc : c ≠ .none_) : Evolves s (t.retireItem n c) := by
  refine h.modifyItem n (fun it => ?_) fun it => ?_
  · split <;> rfl
  · split
    · exact fun e => absurd e hc
    · exact id

theorem finishWork (h : Evolves s t) (n : Nat) : Evolves s (t.finishWork n) := h.moveItem n fun _ => ⟨rfl, rfl⟩

theorem noticeTaken (h : Evolves s t) (n : Nat) : Evolves s (t.noticeTaken n) := h.moveItem n fun _ => ⟨rfl, rfl⟩

theorem retireForReplacement (h : Evolves s t) (n : Nat) {c : Cause} (hc : c ≠ .none_) :
    Evolves s (t.retireForReplacement n c) := by
  unfold State.retireForReplacement
  split
  · exact h
  · split
    · exact (h.retireItem n hc).needCheck _ none
    · exact h

theorem haltLine (h : Evolves s t) (c : HaltCause) (n m : Option Nat) (e : Option ExitName) :
    Evolves s (t.haltLine c n m e) := by
  unfold State.haltLine
  dsimp only
  split
  · refine Evolves.raise (t := { t with line := _, punch := _, bend := _ }) ?_ _ _
    exact h.mapItems (f := fun it => { it with window := it.window.map fun w => w.freeze t.now }) rfl (fun _ => rfl)
      (fun _ => id) rfl rfl rfl rfl
  · split
    · exact h
    · refine Evolves.raise ?_ _ _
      exact h.setLine (.refl _)
  · exact h

theorem startToGates (h : Evolves s t) : Evolves s t.startToGates := by
  have gate : ∀ (now : Nat) (st : Station) (l : Line),
      (currentItems (l.startToGate now st).items).Sublist (currentItems l.items) := fun now st l => by
    unfold Line.startToGate
    split
    · split
      · split
        · refine currentItems_map (fun _ => ?_) fun _ => ?_
          · split <;> rfl
          · split <;> exact id
        · exact .refl _
      · exact .refl _
    · exact .refl _
  exact h.items (((gate _ _ _).trans (gate _ _ _)).trans (gate _ _ _)) rfl rfl rfl rfl

/-! ### The completion notice (R43 to R46) -/

theorem workEntry (h : Evolves s t) (k : PageKey) (v : Nat) (p : PlateId) : Evolves s (t.workEntry k v p) := by
  unfold State.workEntry
  split
  · exact h
  · rename_i e _
    dsimp only
    have hbuild : Evolves s (match t.currentBuild p with
        | none => t
        | some b => if b.state.waits then t.rebindBuild e b k v else t.retireBuild b .superseded) := by
      split
      · exact h
      · rename_i b hb
        split
        · rename_i hw
          exact h.trans (Evolves.refl.rebindBuild e k v (State.currentBuild_mem hb).1 hw)
        · rename_i hw
          exact h.retireBuild (State.currentBuild_mem hb).1 (by simpa using hw) (by simp)
    refine Evolves.needCheck ?_ _ _
    split
    · exact hbuild
    · split
      · exact hbuild.retireItem _ (by simp)
      · exact hbuild

theorem workEntries (h : Evolves s t) (k : PageKey) (v : Nat) (ps : List PlateId) :
    Evolves s (t.workEntries k v ps) := by
  induction ps generalizing t with
  | nil => exact h
  | cons p ps ih => exact ih (h.workEntry k v p)

theorem answerNotice (h : Evolves s t) (n : Notice) : Evolves s (t.answerNotice n) := by
  have hs : t.store.Rebound { t.store with notices := t.store.notices.tail } := Store.Rebound.refl.same rfl rfl rfl
  unfold State.answerNotice
  split
  · exact h.rebind hs
  · exact (h.rebind (hs.freed _ _)).offer _

theorem workNotice (h : Evolves s t) : Evolves s t.workNotice := by
  unfold State.workNotice
  split
  · exact h
  · exact (h.workEntries _ _ _).answerNotice _

/-! ### The stations (chapter 8) -/

theorem orderDie (h : Evolves s t) : Evolves s t.orderDie := h.frame rfl rfl rfl rfl rfl

theorem punchFinishes (h : Evolves s t) (n : Nat) : Evolves s (t.punchFinishes n) :=
  (h.setPunch _).finishWork n

theorem punchTakes (h : Evolves s t) (it : Item) : Evolves s (t.punchTakes it) := by
  have h1 := h.noticeTaken it.order
  have strokes : ∀ {w}, Evolves s w → ∀ p, Evolves s (if w.itemRetired it.order then w.finishWork it.order
      else State.orderDie { w with punch := p }) := fun hw p => by
    split
    · exact hw.finishWork _
    · exact (hw.setPunch p).orderDie
  unfold State.punchTakes
  dsimp only
  split
  · exact strokes (h1.retireForReplacement _ (by simp)) _
  · exact strokes h1 _

theorem punchEntry (h : Evolves s t) : Evolves s t.punchEntry := by
  unfold State.punchEntry
  split
  · split
    · exact h.punchTakes _
    · exact h
  · exact h

theorem dieHome (h : Evolves s t) (n time : Nat) : Evolves s (t.dieHome n time) := by
  have h' : Evolves s { t with punch := t.punch.releaseDie } := h.frame rfl rfl rfl rfl rfl
  unfold State.dieHome
  split
  · unfold State.punchContinues
    split
    · exact h'.punchFinishes _
    · split
      · exact h'.punchFinishes _
      · split
        · exact h'.frame rfl rfl rfl rfl rfl
        · exact h'.orderDie
  · exact h.frame rfl rfl rfl rfl rfl

theorem dieExpires (h : Evolves s t) : Evolves s t.dieExpires := by
  have h' : Evolves s { t with punch := t.punch.releaseDie } := h.frame rfl rfl rfl rfl rfl
  unfold State.dieExpires
  split
  · split
    · exact ((h'.retireForReplacement _ (by simp)).haltLine _ _ _ _).punchFinishes _
    · exact h
  · exact h

theorem punchReturns (h : Evolves s t) : Evolves s t.punchReturns := by
  have h' : Evolves s { t with punch := { t.punch with halted := false } } := h.frame rfl rfl rfl rfl rfl
  unfold State.punchReturns
  dsimp only
  split
  · split
    · exact h'.punchFinishes _
    · exact h'.orderDie
  · exact h'

theorem orderBend (h : Evolves s t) (k : BendKind) : Evolves s (t.orderBend k) := h.frame rfl rfl rfl rfl rfl

theorem bendFinishes (h : Evolves s t) (n : Nat) : Evolves s (t.bendFinishes n) :=
  (h.setBend _).finishWork n

theorem bendTakes (h : Evolves s t) (it : Item) : Evolves s (t.bendTakes it) := by
  have h1 := h.noticeTaken it.order
  unfold State.bendTakes
  dsimp only
  split
  · exact h1.finishWork _
  · split
    · exact h1.finishWork _
    · exact (h1.setBend _).orderBend _

theorem bendEntry (h : Evolves s t) : Evolves s t.bendEntry := by
  unfold State.bendEntry
  split
  · split
    · exact h.bendTakes _
    · exact h
  · exact h

theorem bendDone (h : Evolves s t) (time : Nat) : Evolves s (t.bendDone time) := by
  have h' : Evolves s { t with bend := t.bend.release } := h.frame rfl rfl rfl rfl rfl
  unfold State.bendDone
  split
  · unfold State.bendContinues
    split
    · split
      · exact h'.frame rfl rfl rfl rfl rfl
      · exact h'.orderBend _
    · exact h'.bendFinishes _
  · exact h.frame rfl rfl rfl rfl rfl

theorem bendExpires (h : Evolves s t) : Evolves s t.bendExpires := by
  have h' : Evolves s { t with bend := t.bend.release } := h.frame rfl rfl rfl rfl rfl
  unfold State.bendExpires
  split
  · split
    · exact ((h'.retireForReplacement _ (by simp)).haltLine _ _ _ _).bendFinishes _
    · exact h
  · exact h

theorem bendReturns (h : Evolves s t) : Evolves s t.bendReturns := by
  have h' : Evolves s { t with bend := { t.bend with halted := false } } := h.frame rfl rfl rfl rfl rfl
  unfold State.bendReturns
  dsimp only
  split
  · split
    · exact h'.bendFinishes _
    · exact h'.orderBend _
  · exact h'

/-! ### The sort station (chapter 9) -/

theorem orderDeposit (h : Evolves s t) (n : Nat) (d : Destination) : Evolves s (t.orderDeposit n d) := by
  unfold State.orderDeposit
  refine Evolves.setSorter ?_ _
  exact h.moveItem n fun _ => ⟨rfl, rfl⟩

theorem fixDestination (h : Evolves s t) (n : Nat) (d : Destination) (v : Option Divert) (r : Bool) :
    Evolves s (t.fixDestination n d v r) := by
  unfold State.fixDestination
  dsimp only
  split
  · exact h.setSorter _
  · exact (h.setSorter _).orderDeposit n d

theorem haltBlocked (h : Evolves s t) : Evolves s t.haltBlocked := by
  unfold State.haltBlocked
  split
  · exact h.haltLine _ _ _ _
  · exact h

theorem decideFor (h : Evolves s t) (it : Item) : Evolves s (t.decideFor it) := by
  unfold State.decideFor
  split
  · exact h.fixDestination _ _ _ _
  · split
    · exact (h.retireForReplacement _ (by simp)).fixDestination _ _ _ _
    · exact h.fixDestination _ _ _ _

theorem sortTakes (h : Evolves s t) : Evolves s t.sortTakes := by
  unfold State.sortTakes
  split
  · split
    · exact (h.noticeTaken _).decideFor _
    · exact h
  · exact h

theorem sortEntry (h : Evolves s t) : Evolves s t.sortEntry := by
  unfold State.sortEntry
  split
  · exact h.sortTakes.haltBlocked
  · exact h

theorem sorterReturns (h : Evolves s t) : Evolves s t.sorterReturns := by
  unfold State.sorterReturns
  split
  · exact h.decideFor _
  · exact h

theorem tellDelivery (h : Evolves s t) (it : Item) (d : Destination) : Evolves s (t.tellDelivery it d) := by
  unfold State.tellDelivery
  split
  · exact h
  · exact h.modifyEntry _ (fun _ => rfl) fun _ => rfl

theorem depositItem (h : Evolves s t) (it : Item) (time : Nat) : Evolves s (t.depositItem it time) := by
  have h1 := h.deleteItem it.order
  unfold State.depositItem
  dsimp only
  split
  · rename_i d _ _
    have h2 := ((h1.setSorter ((t.deleteItem it.order).sorter.deposited d)).tellDelivery it d).dropRefs it.bindings
    exact Evolves.setSorter (h2.offer _) _
  · exact h1

/-! ### The events of the line (chapter 7) -/

theorem matched (h : Evolves s t) (it : Item) (k : WindowKind) (time : Nat) : Evolves s (t.matched it k time) := by
  have gate : Evolves s (t.gateMatched it) := h.moveItem _ fun _ => ⟨rfl, rfl⟩
  have entry : ∀ st, Evolves s (t.entryMatched it st time) := fun st => by
    refine Evolves.setLine (t := State.modifyItem it.order _ t) ?_ (.refl _)
    exact h.moveItem _ fun _ => ⟨rfl, rfl⟩
  unfold State.matched
  split
  · have h' := h.moveItem it.order (f := fun it => { it with window := none, location := .conveying, source := none })
      fun _ => ⟨rfl, rfl⟩
    unfold State.exitMatched
    dsimp only
    split
    · exact h'
    · exact h'.unloaded _
  · exact gate
  · exact gate
  · exact gate
  · exact entry _
  · exact entry _
  · exact entry _
  · exact h.depositItem it time

theorem phantom (h : Evolves s t) (x : LineSensor) (n : Option Nat) (time : Nat) : Evolves s (t.phantom x n time) := by
  unfold State.phantom
  split
  · exact h.raise _ _
  · exact h.haltLine _ _ _ _

theorem lineArrival (h : Evolves s t) (x : LineSensor) (time : Nat) : Evolves s (t.lineArrival x time) := by
  unfold State.lineArrival
  split
  · exact h.phantom _ _ _
  · split
    · exact h
    · split
      · exact (h.matched _ _ _).startToGates
      · exact h.phantom _ _ _

theorem gateOpens (h : Evolves s t) (st : Station) : Evolves s (t.gateOpens st) := by
  unfold State.gateOpens
  split
  · exact h
  · rename_i it _
    refine Evolves.setLine (t := State.modifyItem it.order _ t) ?_ (.refl _)
    exact h.moveItem _ fun _ => ⟨rfl, rfl⟩

theorem itemReleases (h : Evolves s t) (st : Station) : Evolves s (t.itemReleases st) := by
  unfold State.itemReleases
  split
  · exact h
  · refine Evolves.startToGates ?_
    exact h.moveItem _ fun _ => ⟨rfl, rfl⟩

theorem spacingExpires (h : Evolves s t) : Evolves s t.spacingExpires := by
  unfold State.spacingExpires
  split
  · exact h.frame rfl rfl rfl rfl rfl
  · exact h

theorem windowExpires (h : Evolves s t) (x : LineSensor) : Evolves s (t.windowExpires x) := by
  unfold State.windowExpires
  split
  · exact h
  · exact h.haltLine _ _ _ _

end Evolves

/-! ### The merge (R136 to R138) -/

/-- A grant makes the build an item and frees its record; its imager holds it no longer (R138). -/
theorem Sound.grantTo (h : Sound s) {r : ExitRequest} {b : Build} (hb : b ∈ s.plates.builds)
    (hr : (s.channel r.imager).seq.build = some b.bid) : Sound (s.grantTo r b) := by
  obtain ⟨himg, -, -⟩ := h.held (i := r.imager) hb (by rw [hr]; rfl)
  unfold State.grantTo
  dsimp only
  generalize hl : ({ s.line with items := _, counter := _, merge := _ } : Line) = l
  have hmerged : PlatesSound none (State.freeBuild b.bid { s with line := l }) :=
    h.plates.merge (it := b.toItem s.line.counter r.imager (s.line.newWindow .exit (exitSensor r.imager) s.now)) hb rfl
      (by rw [← hl]; rfl) rfl rfl
  have hworked := hmerged.workPendingFrom s.plates.pendingList
  have hpend : PendingFull (State.freeBuild b.bid { s with line := l }).workPending := by
    refine hmerged.workPendingFrom_full rfl fun hne => ?_
    have hlen := (perm_filter_bid h.plates.ids hb).length_eq
    have := h.full hne
    simp only [List.length_cons] at hlen
    simp only [State.freeBuild]
    omega
  refine ⟨hworked.of_plates (by simp; rfl) (.refl _), by simpa [PendingFull] using hpend, fun j => ?_⟩
  by_cases hj : j = r.imager
  · subst hj
    rw [State.channel_modifySeq]
    exact ⟨fun _ => rfl, fun n hn => by simp at hn⟩
  · simp only [State.modifySeq, State.channel_setChannel_other _ _ _ _ hj, State.seq_modifyOut, State.setChannel_frame,
      State.modifyOut_frame]
    have hchan : (State.freeBuild b.bid { s with line := l }).workPending.channel j = s.channel j := by
      simp [State.channel]
    rw [hchan]
    refine (h.holds j).builds fun c hc hci ho hr' hq => ⟨c, State.mem_workPendingFrom ?_ _, rfl, hci, ho, hr'⟩
    refine List.mem_filter.mpr ⟨hc, ?_⟩
    simp only [decide_eq_true_eq]
    intro e
    rw [h.plates.eq_of_bid hc hb e, himg] at hci
    exact hj (Option.some.inj hci).symm

namespace Evolves

theorem mergeGrants (h : Evolves s t) : Evolves s t.mergeGrants := by
  unfold State.mergeGrants
  split
  · split
    · exact h
    · rename_i r _
      split
      · exact h
      · rename_i b hb
        obtain ⟨n, hn, hb⟩ := Option.bind_eq_some_iff.mp hb
        obtain ⟨hmem, rfl⟩ := State.build_mem hb
        refine h.trans ⟨by simp, ?_, fun hsound => hsound.grantTo hmem hn⟩
        unfold State.grantTo
        simp only [State.modifySeq, State.setChannel_frame, State.modifyOut_frame]
        generalize ({ t.line with items := _, counter := _, merge := _ } : Line) = l
        exact State.workPendingFrom_store _ (State.freeBuild b.bid { t with line := l })
  · exact h

/-! ### The return to RUNNING (R153) -/

theorem returnToRunning (h : Evolves s t) : Evolves s t.returnToRunning := by
  have h1 : Evolves s (State.startToGates { t with line := t.line.returned t.now }) :=
    Evolves.startToGates (h.mapItems (f := t.line.resumeItem t.now) rfl (fun _ => rfl) (fun _ => id) rfl rfl rfl rfl)
  have h2 := h1.punchEntry.bendEntry.sortTakes
  have h3 := ((((h2.gateOpens .sort).itemReleases .bend).gateOpens .bend).itemReleases .punch).gateOpens .punch
  have h4 := h3.punchReturns.bendReturns
  unfold State.returnToRunning State.tellReturn
  dsimp only
  refine haltBlocked (mergeGrants ?_)
  split
  · exact h4.sorterReturns
  · exact h4

theorem tellRemoved (h : Evolves s t) (it : Item) : Evolves s (t.tellRemoved it) := by
  unfold State.tellRemoved
  split
  · split
    · exact h
    · exact h.unloaded _
  · exact h.frame rfl rfl rfl rfl rfl
  · exact h.frame rfl rfl rfl rfl rfl
  · exact h.frame rfl rfl rfl rfl rfl
  · exact h

theorem removeItem (h : Evolves s t) (it : Item) : Evolves s (t.removeItem it) := by
  have h' := ((h.deleteItem it.order).tellRemoved it).dropRefs it.bindings
  unfold State.removeItem
  dsimp only
  split
  · exact h'.needCheck _ _
  · exact h'

/-! ### Sensors (chapter 5) -/

theorem takeArrival (h : Evolves s t) (n time : Nat) : Evolves s (t.takeArrival n time) := by
  unfold State.takeArrival
  split
  · exact h.lineArrival _ _
  · repeat' split
    · exact h.clamped _
    · exact h.clamped _
    · exact h.dieHome _ _
    · exact h.bendDone _
    · exact h.frame rfl rfl rfl rfl rfl
    · exact h.frame rfl rfl rfl rfl rfl
    · exact h.frame rfl rfl rfl rfl rfl
    · exact h

theorem acceptInput (h : Evolves s t) (n : Nat) : Evolves s (t.acceptInput n) := h.frame

theorem arrival (h : Evolves s t) (n : Nat) : Evolves s (t.arrival n) := by
  unfold State.arrival
  split
  · exact (h.acceptInput n).takeArrival _ _
  · exact h

theorem departure (h : Evolves s t) (n : Nat) : Evolves s (t.departure n) := by
  unfold State.departure
  split
  · dsimp only
    split
    · exact (h.acceptInput n).frame rfl rfl rfl rfl rfl
    · exact h.acceptInput n
  · exact h

theorem settle (h : Evolves s t) (n : Nat) : Evolves s (t.settle n) := by
  unfold State.settle
  split
  · exact ((h.arrival n).departure n).makePass
  · exact h

theorem rawLevel (h : Evolves s t) (n : Nat) (level : Bool) : Evolves s (t.rawLevel n level) := by
  unfold State.rawLevel
  split
  · exact (h.settle n).frame rfl rfl rfl rfl rfl
  · exact h

theorem configureInput (h : Evolves s t) (n : Nat) (rising : Bool) (filter : Nat) :
    Evolves s (t.configureInput n rising filter) := by
  have h' := h.settle n
  unfold State.configureInput
  dsimp only
  split
  · split
    · exact h'.frame rfl rfl rfl rfl rfl
    · exact h'.frame rfl rfl rfl rfl rfl
  · exact h'.frame rfl rfl rfl rfl rfl

theorem tick (h : Evolves s t) : Evolves s t.tick :=
  h.mapItems (f := fun it => { it with window := it.window.map Window.tick }) rfl (fun _ => rfl) (fun _ => id)
    rfl rfl rfl rfl

/-- A change of the channels that leaves the sequencers. -/
theorem sameSeq (h : Evolves s t) (hc : ∀ i, (u.channel i).seq = (t.channel i).seq) (hx : u.rx = t.rx := by simp)
    (hs : u.store = t.store := by simp) (hp : u.plates = t.plates := by simp)
    (hl : u.line.items = t.line.items := by simp) : Evolves s u :=
  h.trans ⟨congrArg Receive.contexts hx, by rw [hs]; exact .refl,
    fun hsound => hsound.of_same hp hc (by rw [hl])⟩

theorem advance (h : Evolves s t) (n : Nat) : Evolves s (t.advance n) :=
  h.sameSeq (fun i => by cases i <;> rfl) rfl rfl rfl rfl

theorem referenceTick (h : Evolves s t) : Evolves s t.referenceTick := by
  unfold State.referenceTick
  split
  · exact (h.advance 1).tick
  · exact h.advance 1

end Evolves

end Sys2Proof.Machine
end


-- ==== Sys2Proof/Proofs/Invariants.lean ====
section
/-! PROOF. The invariants of the pages and of the plate tables: every step keeps them (chapters 1 and 2). -/

namespace Sys2Proof.Machine

variable {s t u : State}

/-- From `s` to `t` sound plate tables and sound pages stay so. -/
structure Keeps (s t : State) : Prop where
  sound : Sound s → Sound t
  pages : ∀ full, PagesSound full s → PagesSound full t

theorem Keeps.refl : Keeps s s := ⟨id, fun _ => id⟩

theorem Keeps.trans (h : Keeps s t) (h' : Keeps t u) : Keeps s u :=
  ⟨h'.sound ∘ h.sound, fun full => h'.pages full ∘ h.pages full⟩

theorem Evolves.keeps (h : Evolves s t) : Keeps s t := ⟨h.sound, fun _ hp => hp.rebound h.contexts h.store⟩

/-- What is neither page, plate table, sequencer nor item may change. -/
theorem Keeps.frame (hx : t.rx = s.rx := by rfl) (hs : t.store = s.store := by rfl) (hp : t.plates = s.plates := by rfl)
    (hc : ∀ i, (t.channel i).seq = (s.channel i).seq := by exact fun _ => rfl)
    (hl : t.line.items = s.line.items := by rfl) : Keeps s t :=
  ⟨fun h => h.of_same hp hc (by rw [hl]), fun _ h => h.rebound (congrArg Receive.contexts hx) (hs ▸ .refl)⟩

/-- The page operations leave the plate tables, the items and the sequencers. -/
theorem Keeps.of_pages (hpages : ∀ full, PagesSound full s → PagesSound full t)
    (hp : t.plates = s.plates := by simp) (hl : t.line = s.line := by simp)
    (hc : ∀ i, (t.channel i).seq = (s.channel i).seq := by simp [State.channel]) : Keeps s t :=
  ⟨fun h => h.of_same hp hc (by rw [hl]), hpages⟩

/-! ### The events -/

/-- A segment and a line written leave the sequencers. -/
theorem State.seq_transferEnds (x : Transfer) (i : Imager) (s : State) :
    ((s.transferEnds x).channel i).seq = (s.channel i).seq := by
  have segment : ∀ (j : Imager) (u : State), ((u.segmentRead j).channel i).seq = (u.channel i).seq := fun j u =>
    State.seq_putComposer j i _ u
  have taken : ∀ u : State, ((u.takeTransfer x).channel i).seq = (u.channel i).seq := fun u => by
    unfold State.takeTransfer
    split
    · rfl
    · split
      · split
        · rfl
        · simp [State.channel]
      · exact segment .a u
      · exact segment .b u
  exact taken { s with store := { s.store with port := { s.store.port with busy := none } } }

theorem Effect.keeps {f : State → State} (hf : Effect f) (s : State) : Keeps s (f s) := by
  have h : Evolves s s := .refl
  cases hf with
  | idle => exact .refl
  | frame bs => exact .of_pages fun _ hp => hp.frameArrives bs
  | transfer x => exact .of_pages (fun _ hp => hp.transferEnds x) (hc := fun i => s.seq_transferEnds x i)
  | receiveTimeout n => exact .of_pages fun _ hp => hp.receiveExpires n
  | lane => exact .frame
  | notice => exact h.workNotice.keeps
  | dispatch => exact h.dispatchPass.keeps
  | arrival n => exact (h.arrival n).keeps
  | departure n => exact (h.departure n).keeps
  | loadTimeout i => exact (h.loadExpires i).keeps
  | spinupTimeout i => exact (h.spinupExpires i).keeps
  | index i => exact (h.indexPulse i).keeps
  | emissionEnd i => exact (h.emissionEnds i).keeps
  | pulseEnd i => exact (h.pulseEnds i).keeps
  | saturation i => exact (h.stalls i).keeps
  | encoder i ph => exact (h.encoder i ph).keeps
  | mergeGrant => exact h.mergeGrants.keeps
  | spacing => exact h.spacingExpires.keeps
  | windowExpiry x => exact (h.windowExpires x).keeps
  | gateOpen st => exact (h.gateOpens st).keeps
  | itemRelease st => exact (h.itemReleases st).keeps
  | punchEntry => exact h.punchEntry.keeps
  | dieTimeout => exact h.dieExpires.keeps
  | bendEntry => exact h.bendEntry.keeps
  | bendTimeout => exact h.bendExpires.keeps
  | sortEntry => exact h.sortEntry.keeps
  | tick => exact (h.advance _).tick.keeps
  | rawLevel n level => exact (h.rawLevel n level).keeps

/-! ### The requests of the Plate Map (R29 to R31) -/

/-- An entry written for a plate id leaves the entries of the others. -/
theorem putEntry_other {e : MapEntry} {p : PlateId} (hp : p ≠ e.id) (m : List MapEntry) :
    ((putEntry e m).find? fun f => decide (f.id = p)) = m.find? fun f => decide (f.id = p) := by
  have he : decide (e.id = p) = false := by simpa using fun h => hp h.symm
  induction m with
  | nil => simp [putEntry, he]
  | cons f m ih =>
    unfold putEntry
    split
    · rename_i h
      have hf : decide (f.id = p) = false := by rw [← h]; exact he
      simp only [List.find?_cons, he, hf]
    · split
      · simp only [List.find?_cons, he]
      · rw [List.find?_cons, List.find?_cons, ih]

theorem deleteEntry_other {p q : PlateId} (hp : p ≠ q) (m : List MapEntry) :
    ((m.filter fun f => decide (f.id ≠ q)).find? fun f => decide (f.id = p)) = m.find? fun f => decide (f.id = p) := by
  rw [List.find?_filter]
  congr 1
  funext f
  by_cases h : f.id = p
  · simp [h, hp]
  · simp [h]

theorem State.not_inUse {p : PlateId} (h : s.inUse p = false) : ∀ b ∈ s.plates.builds, b.plate ≠ p := by
  simpa [State.inUse] using h

/-- The map changes in the entry of a plate id of which the table holds no build (R30, R31). -/
theorem Evolves.setMap (h : Evolves s t) {p : PlateId} (hp : t.inUse p = false) {m : List MapEntry}
    (hm : ∀ q, q ≠ p → (m.find? fun f => decide (f.id = q)) = t.entry q) :
    Evolves s { t with plates := { t.plates with map := m } } :=
  h.trans ⟨rfl, .refl, fun hsound => ⟨hsound.plates.of_same rfl rfl rfl (fun b hb => by
    simp only [State.classOfPlate]
    rw [← hm _ (State.not_inUse hp b hb)]
    rfl) hsound.plates.current, hsound.full, hsound.holds⟩⟩

theorem State.mapRefusal_none {p : PlateId} {z c : Nat} {a : Option Affinity} {ps : List PosArgs}
    (h : s.mapRefusal p z c a ps = none) : s.inUse p = false := by
  unfold State.mapRefusal at h
  dsimp only at h
  split at h
  · cases h
  · split at h
    · cases h
    · split at h
      · cases h
      · split at h
        · cases h
        · split at h
          · cases h
          · simpa using ‹¬ s.inUse p = true›

theorem Evolves.mapLoad (p : PlateId) (z c a : Nat) (ps : List PosArgs) :
    Evolves s (applyMapLoad p z c a ps s).state := by
  unfold applyMapLoad
  split
  · exact .refl
  · rename_i hnone
    exact (Evolves.refl.setMap (State.mapRefusal_none hnone) fun q hq => putEntry_other hq _).needCheck p none

theorem Evolves.leavePending (h : Evolves s t) (p : PlateId) : Evolves s (t.leavePending p) :=
  h.trans ⟨rfl, .refl, fun hsound => ⟨hsound.plates.leavePending p,
    fun hne => hsound.full fun e => hne (by simp [State.leavePending, e]), hsound.holds⟩⟩

theorem Evolves.mapDelete (p : PlateId) : Evolves s (applyMapDelete p s).state := by
  unfold applyMapDelete
  repeat' split
  · exact .refl
  · exact .refl
  · exact .refl
  · exact (Evolves.refl.setMap (p := p) (by simpa using ‹¬ s.inUse p = true›)
      fun q hq => deleteEntry_other hq _).leavePending p

/-! ### The other requests -/

theorem Evolves.setSched (h : Evolves s t) (c : Scheduler) : Evolves s { t with sched := c } :=
  h.frame rfl rfl rfl rfl rfl

theorem Evolves.setSizes (h : Evolves s t) (l : List (Option Size)) :
    Evolves s { t with plates := { t.plates with sizes := l } } :=
  h.trans ⟨rfl, .refl, fun hsound => ⟨hsound.plates.of_same rfl rfl rfl (fun _ _ => rfl) hsound.plates.current,
    hsound.full, hsound.holds⟩⟩

theorem Evolves.plateCancel (p : PlateId) : Evolves s (applyPlateCancel p s).state := by
  unfold applyPlateCancel
  split
  · exact .refl
  · split
    · rename_i hb
      obtain ⟨hmem, -, -⟩ := State.currentBuild_mem hb
      split
      · rename_i hw
        exact Evolves.refl.removeWaiting hmem hw
      · rename_i hw
        exact Evolves.refl.retireBuild hmem (by simpa using hw) (by simp)
    · exact Evolves.refl.retireItem _ (by simp)
    · exact .refl

theorem Evolves.imagerClear (n : Nat) : Evolves s (applyImagerClear n s).state := by
  unfold applyImagerClear
  split
  · exact .refl
  · split
    · exact .refl
    · rename_i hf
      refine Evolves.dispatchPass (Evolves.refl.setChannel _ _ (.inr ⟨rfl, fun _ => .inr (.inr ?_)⟩))
      simpa using hf

theorem Evolves.imagerSet (n : Nat) (a : SettingArgs) : Evolves s (applyImagerSet n a s).state := by
  unfold applyImagerSet
  split
  · exact .refl
  · rename_i i _
    have h' := (Evolves.refl (s := s)).setOther i (c := { s.channel i with settings := settingsOf a }) rfl
    dsimp only
    repeat' split
    · exact .refl
    · exact .refl
    · exact .refl
    · exact h'.dispatchPass
    · exact h'

theorem Evolves.lineResume (n : Nat) : Evolves s (applyLineResume n s).state := by
  unfold applyLineResume
  repeat' split
  · exact .refl
  · exact .refl
  · exact .refl
  · exact Evolves.refl.returnToRunning
  · exact .refl
  · exact (Evolves.refl.removeItem _).returnToRunning

/-! ### RESTART (R198) -/

/-- RESTART leaves no imager with a build (R130). -/
theorem State.restartImager_seq (i : Imager) (bs : List Build) (s : State)
    (hrest : (s.channel i).seq.state = .idle ∨ (s.channel i).seq.state = .unloading ∨ (s.channel i).seq.state = .fault →
      (s.channel i).seq.build = none) :
    ((s.restartImager i bs).channel i).seq.build = none ∧
    ∀ j, j ≠ i → ((s.restartImager i bs).channel j).seq = (s.channel j).seq := by
  unfold State.restartImager
  dsimp only
  split
  · rename_i hs
    exact ⟨hrest (.inl hs), fun _ _ => rfl⟩
  · rename_i hs
    exact ⟨hrest (.inr (.inr hs)), fun _ _ => rfl⟩
  · exact s.seq_enterFault i _ _

/-- Empty tables, an empty line and imagers without builds are sound. -/
theorem Sound.empty (hb : t.plates.builds = []) (hq : t.plates.queue = []) (hp : t.plates.pendingList = [])
    (hl : t.line.items = []) (hc : ∀ i, (t.channel i).seq.build = none) : Sound t :=
  ⟨⟨by simp [hb], by simp [hb], by simp [hq], by simp [hq, hb], by simp [hq], by simp [hp],
    by simp [currentPlates, hb, hl], by simp [hb]⟩, fun hne => absurd hp hne,
    fun i => ⟨fun _ => hc i, fun n hn => by simp [hc i] at hn⟩⟩

theorem State.restartImager_evolves (i : Imager) (bs : List Build) (s : State) : Evolves s (s.restartImager i bs) := by
  unfold State.restartImager
  dsimp only
  split
  · exact .refl
  · exact .refl
  · exact Evolves.refl.enterFault i _ _

theorem Keeps.restart : Keeps s (applyRestart s).state := by
  unfold applyRestart
  dsimp only [accept]
  generalize hu : ({ State.restartPages _ with plates := _ } : State) = u
  have huchan : u.chan = s.chan := by rw [← hu]; simp
  have hupages : ∀ full, PagesSound full s → PagesSound full u := fun full hp => by
    have h1 : PagesSound full _ := PagesSound.restartPages (hp.of_same (t := { s with
      reports := { s.reports with events := [], slots := ⟨none, none, none, none, none, none, none⟩ },
      link := { s.link with holding := none } }) rfl rfl rfl rfl)
    rw [← hu]
    exact h1.of_same rfl rfl rfl rfl
  constructor
  · intro h
    have hseq : ∀ i, (u.channel i).seq = (s.channel i).seq := fun i => by simp only [State.channel, huchan]
    obtain ⟨ha, hother⟩ := u.restartImager_seq .a s.plates.builds (by rw [hseq]; exact (h.holds .a).resting)
    have hbseq : (((u.restartImager .a s.plates.builds).channel .b).seq) = (s.channel .b).seq :=
      (hother .b (by simp)).trans (hseq .b)
    obtain ⟨hb, hother'⟩ := (u.restartImager .a s.plates.builds).restartImager_seq .b s.plates.builds
      (by rw [hbseq]; exact (h.holds .b).resting)
    refine Sound.empty (by rw [← hu]; simp) (by rw [← hu]; simp) (by rw [← hu]; simp) rfl fun i => ?_
    simp only [State.channel, State.restartLine_frame]
    cases i with
    | a => exact congrArg Sequencer.build (hother' .a (by simp)) |>.trans ha
    | b => exact hb
  · intro full hp
    refine PagesSound.of_same (s := (u.restartImager .a s.plates.builds).restartImager .b s.plates.builds) ?_
      (by simp) (by simp) (by simp) (by simp)
    exact ((u.restartImager_evolves .a _).trans (State.restartImager_evolves .b _ _)).keeps.pages full (hupages full hp)

/-! ### Every request -/

theorem Applies.keeps {a : State → Answer} (ha : Applies a) (s : State) : Keeps s (a s).state := by
  have h : Evolves s s := .refl
  cases ha with
  | pageOpen n k v w hh r =>
    refine .of_pages (fun _ hp => hp.pageOpen n k v w hh r) ?_ ?_ fun i => ?_
    all_goals
      unfold applyPageOpen
      dsimp only
      repeat' split
    all_goals rfl
  | pageAbandon n =>
    refine .of_pages (fun _ hp => hp.pageAbandon n) ?_ ?_ fun i => ?_
    all_goals
      unfold applyPageAbandon
      repeat' split
    all_goals simp [State.channel, accept, refuse]
  | pageRelease k v =>
    refine .of_pages (fun _ hp => hp.pageRelease k v) ?_ ?_ fun i => ?_
    all_goals
      unfold applyPageRelease
      repeat' split
    all_goals rfl
  | restart => exact .restart
  | mapLoad p z c a ps => exact (Evolves.mapLoad p z c a ps).keeps
  | mapDelete p => exact (Evolves.mapDelete p).keeps
  | plateCancel p => exact (Evolves.plateCancel p).keeps
  | imagerSet n a => exact (Evolves.imagerSet n a).keeps
  | imagerClear n => exact (Evolves.imagerClear n).keeps
  | lineResume n => exact (Evolves.lineResume n).keeps
  | query f => exact .refl
  | sizeLoad c l x =>
    unfold applySizeLoad
    split
    · exact .refl
    · exact (h.setSizes _).dispatchPass.keeps
  | hold p b =>
    unfold applyHold
    repeat' split
    · exact .refl
    · exact .refl
    · exact (h.modifyEntry p (f := fun e => { e with hold := b }) (fun _ => rfl) fun _ => rfl).dispatchPass.keeps
  | lineHold l b =>
    unfold applyLineHold
    split
    · exact .refl
    · exact (h.setSched _).dispatchPass.keeps
  | replate f p =>
    unfold applyReplate
    repeat' split
    · exact .refl
    · exact .refl
    · exact (h.replateAll _).keeps
    · exact .refl
    · exact (h.replateAll _).keeps
    · exact .refl
  | lineAssign l p =>
    unfold applyLineAssign
    repeat' split
    · exact .refl
    · exact .refl
    · exact .refl
    · exact (h.setSched _).dispatchPass.keeps
  | stockSet i z c =>
    unfold applyStockSet
    repeat' split
    · exact .refl
    · exact .refl
    · exact .refl
    · exact (h.setSched _).dispatchPass.keeps
  | sensorSet n e f =>
    unfold applySensorSet
    repeat' split
    · exact .refl
    · exact .refl
    · exact (h.configureInput _ _ _).keeps
  | lineStart =>
    unfold applyLineStart
    split
    · exact h.returnToRunning.keeps
    · exact .refl
  | lineStop =>
    unfold applyLineStop
    split
    · exact (h.haltLine _ _ _ _).keeps
    · exact .refl
  | pressSet p a b fs =>
    unfold applyPressSet
    repeat' split
    · exact .refl
    · exact .refl
    · exact (h.setPunch _).keeps
  | patternLoad p ds =>
    unfold applyPatternLoad
    split
    · exact .refl
    · exact (h.setPunch _).keeps
  | profileLoad p l e =>
    unfold applyProfileLoad
    repeat' split
    · exact .refl
    · exact (h.setBend _).keeps
    · exact .refl
  | cartLayout c v a =>
    unfold applyCartLayout
    repeat' split
    · exact .refl
    · exact .refl
    · exact (h.setSorter _).keeps
  | windowLoad e lo hi =>
    unfold applyWindowLoad
    repeat' split
    · exact .refl
    · exact .frame
    · exact .refl
    · exact .frame
  | timingLoad e v =>
    unfold applyTimingLoad
    repeat' split
    · exact .refl
    · exact .refl
    · exact .frame
  | reportMask m =>
    unfold applyReportMask
    split
    · exact .refl
    · exact .frame

/-! ### Reset (R24, R55) -/

theorem PagesSound.reset (full : Prop) (hs : t.store = Store.reset) (hx : t.rx = Receive.reset) : PagesSound full t := by
  have hidle : ∀ n, ((Receive.reset.contexts).getD n {}).state = .idle := fun n => by
    simp only [Receive.reset, List.getD_eq_getElem?_getD, List.getElem?_replicate]
    split <;> rfl
  refine ⟨⟨hs ▸ .nil, hs ▸ Nat.zero_le _, hs ▸ rfl⟩, fun _ => ⟨?_, hx ▸ rfl, hs ▸ by simp [Store.reset], fun n _ hne => ?_⟩⟩
  · rw [hs]
    simp [Store.reset]
  · rw [hx] at hne
    exact absurd (hidle n) hne

theorem State.powerOn_blocks (l : BitVec 32) (a b : Phase) (s : State) :
    (s.powerOn l a b).store = Store.reset ∧ (s.powerOn l a b).rx = Receive.reset ∧
    (s.powerOn l a b).plates = Plates.reset ∧ (s.powerOn l a b).line = Line.reset ∧
    (s.powerOn l a b).chan = ⟨Channel.reset a, Channel.reset b⟩ := by
  simp [State.powerOn, State.attachFound_eq, State.released]

theorem Keeps.powerOn (l : BitVec 32) (a b : Phase) : Keeps s (s.powerOn l a b) := by
  obtain ⟨hs, hx, hp, hl, hc⟩ := s.powerOn_blocks l a b
  refine ⟨fun _ => .empty (by rw [hp]; rfl) (by rw [hp]; rfl) (by rw [hp]; rfl) (by rw [hl]; rfl) fun i => ?_,
    fun full _ => .reset full hs hx⟩
  cases i <;> simp only [State.channel, hc] <;> rfl

/-! ### Every step -/

theorem step_keeps_invariants (h : step s = .next t) : Keeps s t := by
  refine step_keeps (P := Keeps s) ?pending ?requests ?replies ?pump ?pass ?tick ?asserted ?power
    (fun f hf u hu => hu.trans (hf.keeps u)) (fun a ha u hu => hu.trans (ha.keeps u)) .refl h
  case pending => exact fun u cs hu => hu.trans .frame
  case requests => exact fun u q hu => hu.trans .frame
  case replies => exact fun u r hu => hu.trans Evolves.refl.frame.keeps
  case pump => exact fun u hu => hu.trans Evolves.refl.frame.keeps
  case pass => exact fun u hu => hu.trans Evolves.refl.makePass.keeps
  case tick => exact fun u hu => hu.trans Evolves.refl.referenceTick.keeps
  case asserted =>
    exact fun u hu => hu.trans (.frame (hc := fun i => by cases i <;> rfl))
  case power => exact fun u l a b hu => hu.trans (.powerOn l a b)

/-- Settles O7: every effect rebinds records and keeps the plate tables (`Effect.keeps`, `Applies.keeps`); what the idle
list holds follows from the account of the cells (`Store.Accounted.idle_length`). -/
theorem stepKeepsCellPoolBalanced : Obligations.StepKeepsCellPoolBalanced := by
  refine ⟨fun s t hb h => ?_, fun s t hb hc h => ?_, fun s hb hc => ?_, fun s t hs h => ?_⟩
  · rw [cellPoolBalanced_iff] at hb ⊢
    exact ((step_keeps_invariants h).pages False ⟨hb, False.elim⟩).balanced
  · rw [cellPoolBalanced_iff] at hb
    rw [cellsAccounted_iff] at hc ⊢
    exact ((step_keeps_invariants h).pages True ⟨hb, fun _ => hc⟩).accounted trivial
  · rw [cellPoolBalanced_iff] at hb
    rw [cellsAccounted_iff] at hc
    exact ⟨(List.nodup_append.mp (hc.cells.nodup_iff.mpr List.nodup_range)).1, hc.idle_length hb⟩
  · rw [buildsSound_iff] at hs ⊢
    exact (step_keeps_invariants h).sound hs

end Sys2Proof.Machine
end


-- ==== Sys2Proof/Proofs/Reset.lean ====
section
/-! PROOF. The state after reset, and the grants of the store port (chapters 1, 5 and 10). -/

namespace Sys2Proof.Machine

/-! ### The port (R6) -/

/-- Settles O19, along the requester that was granted last. -/
theorem storePortGrantsInCyclicOrder : Obligations.StorePortGrantsInCyclicOrder := by
  rintro ⟨busy, receive, a, b, last⟩
  refine ⟨fun t ht => ?_, ?_, ?_, ?_, ?_⟩
  · dsimp only at ht
    subst ht
    rfl
  all_goals
    rintro rfl hw h
    simp only at hw h
    subst hw
  · rintro rfl
    subst h
    cases last <;> rfl
  all_goals
    rcases h with rfl | ⟨h1, rfl⟩ | ⟨rfl, rfl⟩
    · rfl
    · subst h1
      rfl
    · cases last <;> rfl

/-! ### Carts found at the release of reset (R99) -/

/-- The Sorter Controller of reset with the carts PRESENT that `found` names. -/
def Sorter.found (found : Nat → Bool) : Sorter :=
  { Sorter.reset with carts := (List.range 6).map fun n => ⟨none, found n, []⟩ }

theorem Sorter.attach_found {found : Nat → Bool} {k : Nat} (hk : k < 6) (hf : found k = false) :
    (Sorter.found found).attach k = Sorter.found fun n => decide (n = k) || found n := by
  have hcart : (Sorter.found found).cart k = ⟨none, false, []⟩ := by
    simp [Sorter.cart, Sorter.found, List.getD_eq_getElem?_getD, hk, hf]
  have hcarts : ((List.range 6).map fun n => (⟨none, found n, []⟩ : Cart)).set k ⟨none, true, []⟩ =
      (List.range 6).map fun n => ⟨none, decide (n = k) || found n, []⟩ := by
    refine List.ext_getElem (by simp) fun n h1 h2 => ?_
    by_cases hn : k = n
    · simp [hn]
    · simp [hn, Ne.symm hn]
  rw [Sorter.attach, hcart]
  exact congrArg (fun c : List Cart => { Sorter.reset with carts := c }) hcarts

/-- The attach events of the first `k` carts make those of them PRESENT that are found at their active level. -/
theorem Sorter.attach_range (active : Nat → Bool) {k : Nat} (hk : k ≤ 6) :
    (List.range k).foldl (fun t n => if active n then t.attach n else t) Sorter.reset =
      Sorter.found fun n => decide (n < k) && active n := by
  induction k with
  | zero => rfl
  | succ k ih =>
    have step : (fun n => decide (n < k + 1) && active n) = fun n =>
        if active k then decide (n = k) || (decide (n < k) && active n) else decide (n < k) && active n := by
      funext n
      rcases Nat.lt_trichotomy n k with h | rfl | h
      · simp [h, Nat.lt_succ_of_lt h, Nat.ne_of_lt h]
      · cases active n <;> simp
      · simp [Nat.not_lt_of_gt h, show ¬ n < k + 1 by omega, Nat.ne_of_gt h]
    rw [List.range_succ, List.foldl_append, ih (by omega), step]
    simp only [List.foldl_cons, List.foldl_nil]
    split
    · exact Sorter.attach_found hk (by simp)
    · rfl

theorem State.powerOn_input (levels : BitVec 32) (a b : Phase) (s : State) {n : Nat} (hn : n < 6) :
    (State.input { State.released levels a b with pending := s.pending, freeCount := s.freeCount } (cartInput n)).active =
      levels.getLsbD (24 + n) := by
  have h : 24 + n < 32 := by omega
  simp [State.input, State.released, cartInput, Input.active, Input.reset, List.getD_eq_getElem?_getD, h]

/-- The state after power-on reset: the released machine with the carts found PRESENT (R99, R104). -/
theorem State.powerOn_eq (levels : BitVec 32) (a b : Phase) (s : State) :
    s.powerOn levels a b = { State.released levels a b with
      pending := s.pending, freeCount := s.freeCount, sorter := Sorter.found fun n => levels.getLsbD (24 + n) } := by
  have hfold := Sorter.attach_range (fun n => levels.getLsbD (24 + n)) (Nat.le_refl 6)
  unfold State.powerOn
  rw [State.attachFound_eq]
  congr 1
  refine Eq.trans ?_ (hfold.trans ?_)
  · refine List.foldl_ext _ _ _ fun t n hn => ?_
    rw [State.powerOn_input levels a b s (List.mem_range.mp hn)]
  · refine congrArg (fun c : List Cart => { Sorter.reset with carts := c }) (List.map_congr_left fun n hn => ?_)
    simp [List.mem_range.mp hn]

/-- Settles O3: the blocks of reset hold the values of the rules (`State.powerOn_eq`). -/
theorem powerOnReset : Obligations.PowerOnReset := by
  intro levels a b s
  refine ⟨congrArg Host.Outcome.next (s.powerOn_eq levels a b), ?_⟩
  rintro rfl rfl rfl hp hf
  rw [hp, hf]
  rfl

/-! ### The invariants at reset -/

/-- Settles O5: reset leaves the empty tables that the invariants allow. -/
theorem resetMeetsInvariants : Obligations.ResetMeetsInvariants := by
  have pages : PagesSound True State.reset := .reset True rfl rfl
  have plates : Sound State.reset := .empty rfl rfl rfl rfl fun i => by cases i <;> rfl
  refine ⟨?_, (cellPoolBalanced_iff _).mpr pages.balanced, (cellsAccounted_iff _).mpr (pages.accounted trivial),
    (buildsSound_iff _).mpr plates, ?_, ?_, ?_, rfl⟩
  · show Memory.wf []
    simp [Memory.wf]
  · decide
  · decide
  · decide

end Sys2Proof.Machine
end


-- ==== Sys2Proof/Proofs/PageRequests.lean ====
section
/-! PROOF. The requests and the events of the pages: what they answer and what they leave (chapter 1). -/

namespace Sys2Proof.Machine

/-! ### Ranges (Table 1.1) -/

theorem keyOk_iff (k : PageKey) : keyOk k = true ↔
    k.edition ≤ 15 ∧ k.zone ≤ 15 ∧ k.sect ≤ 15 ∧ 1 ≤ k.page ∧ k.page ≤ 255 ∧ k.sep ≤ 3 := by
  simp [keyOk, and_assoc]

theorem versionOk_iff (v : Nat) : versionOk v = true ↔ 1 ≤ v ∧ v ≤ 255 := by simp [versionOk]

theorem flagOf_isSome (n : Nat) : (flagOf n).isSome = true ↔ n = 0 ∨ n = 1 := by
  unfold flagOf
  split <;> simp_all

/-- A deadline that is reached is due (R95). -/
theorem dueAt_some (now d : Nat) : dueAt now (some d) = true ↔ reached now d := by
  show decide ((now + 4294967296 - d) % 4294967296 < 2147483648) = true ↔ _
  exact decide_eq_true_iff

/-! ### Records (R17, R21, R22) -/

theorem Store.find_modify (t : Store) (k : PageKey) (v : Nat) {f : PageRecord → PageRecord}
    (hk : ∀ r, (f r).key = r.key) (hv : ∀ r, (f r).version = r.version) :
    (t.modify k v f).find k v = (t.find k v).map f := by
  have hkeep : ∀ r : PageRecord, (if r.isFor k v then f r else r).isFor k v = r.isFor k v := fun r => by
    split
    · simp [PageRecord.isFor, hk, hv]
    · rfl
  simp only [Store.find, Store.modify, List.find?_map, Function.comp_def, hkeep]
  cases hf : t.directory.find? fun r => r.isFor k v with
  | none => rfl
  | some r => simp [List.find?_some (p := fun q : PageRecord => q.isFor k v) hf]

/-- A record that changes in place and then leaves. -/
theorem filter_modify (l : List PageRecord) (k : PageKey) (v : Nat) {f : PageRecord → PageRecord}
    (hk : ∀ r, (f r).key = r.key) (hv : ∀ r, (f r).version = r.version) :
    ((l.map fun r => if r.isFor k v then f r else r).filter fun q => !decide (q.key = k ∧ q.version = v)) =
      l.filter fun q => !decide (q.key = k ∧ q.version = v) := by
  induction l with
  | nil => rfl
  | cons r l ih =>
    rw [List.map_cons, List.filter_cons, List.filter_cons, ih]
    by_cases h : r.key = k ∧ r.version = v
    · simp [PageRecord.isFor_iff.mpr h, hk, hv, h]
    · rw [if_neg (mt PageRecord.isFor_iff.mp h)]

/-- The record of a key and version changes, and the freeing condition is evaluated for it (R21, R22). -/
theorem Store.evalFree_modify (t : Store) (k : PageKey) (v : Nat) {f : PageRecord → PageRecord} {r : PageRecord}
    (hk : ∀ r, (f r).key = r.key) (hv : ∀ r, (f r).version = r.version) (hr : t.find k v = some r) :
    (t.modify k v f).evalFree k v =
      if (f r).refs = 0 ∧ ((f r).state = .superseded ∨ ((f r).state = .current ∧ (f r).retain = false)) ∧
          ¬ (∃ n ∈ t.notices, n.key = k ∧ n.version = v) then
        { t with
          directory := t.directory.filter fun q => !decide (q.key = k ∧ q.version = v),
          idleCells := t.idleCells ++ (f r).chain, freeCells := t.freeCells + (f r).height }
      else { t with directory := t.directory.map fun q => if q.key = k ∧ q.version = v then f q else q } := by
  rw [Store.evalFree_eq _ k v (f r) (by rw [Store.find_modify t k v hk hv, hr]; rfl)]
  simp only [Store.modify, filter_modify _ k v hk hv]
  simp only [PageRecord.isFor_iff]

/-! ### PAGE OPEN (R9, R10) -/

/-- Settles O15, along the refusals of R10 in their order. -/
theorem pageOpenRefusedOrApplied : Obligations.PageOpenRefusedOrApplied := by
  intro tag stream k v width height retain s t hready
  have hrange : (!(decide (stream ≤ 7) && keyOk k && versionOk v && decide (1 ≤ width) && decide (width ≤ 64) &&
      decide (1 ≤ height) && decide (height ≤ 512) && (flagOf retain).isSome)) = true ↔
      ¬ (stream ≤ 7 ∧ k.edition ≤ 15 ∧ k.zone ≤ 15 ∧ k.sect ≤ 15 ∧ 1 ≤ k.page ∧ k.page ≤ 255 ∧ k.sep ≤ 3 ∧
        1 ≤ v ∧ v ≤ 255 ∧ 1 ≤ width ∧ width ≤ 64 ∧ 1 ≤ height ∧ height ≤ 512 ∧ (retain = 0 ∨ retain = 1)) := by
    simp only [Bool.not_eq_true', ← Bool.not_eq_true, Bool.and_eq_true, keyOk_iff, versionOk_iff, flagOf_isSome,
      decide_eq_true_eq, and_assoc]
  have hstale : (s.store.directory.any fun r => decide (r.key = k) && decide (v ≤ r.version)) = true ↔
      ∃ r ∈ s.store.directory, r.key = k ∧ v ≤ r.version := by simp
  show request t (applyPageOpen stream k v width height retain) s = _
  rw [request_ready hready]
  unfold applyPageOpen
  simp only [hrange, hstale, State.context, Config.maxRecords]
  repeat' split
  all_goals rfl

/-! ### PAGE ABANDON, PAGE RELEASE, the positions of a plate (R16, R17, R21) -/

/-- Settles O16: the refusals, the drop (`State.dropRecord_eq`), and the freeing evaluation after a change of the record
(`Store.evalFree_modify`). -/
theorem pageAbandonAndRelease : Obligations.PageAbandonAndRelease := by
  refine ⟨fun tag stream s hready => ⟨fun h => ?_, fun h hidle => ?_, fun k v r h hbusy hrec hr => ?_⟩,
    fun tag k v s hready => ⟨fun h => ?_, fun hk h1 h2 hnone => ?_, fun r hk h1 h2 hr => ?_⟩,
    fun st b bs => ?_, fun st => ⟨rfl, rfl, rfl⟩, fun st k v hd => ⟨fun hnone => ?_, fun r hr hk hv => ?_⟩⟩
  · refine request_refused hready ?_
    simp [applyPageAbandon, h]
  · refine request_refused hready ?_
    have hidle : (s.context stream).state = .idle := hidle
    simp [applyPageAbandon, Nat.not_le_of_lt h, hidle]
  · show request _ (applyPageAbandon stream) s = _
    have hbusy : (s.context stream).state ≠ .idle := hbusy
    have hrec : (s.context stream).record = some (k, v) := hrec
    have happly : applyPageAbandon stream s = accept (s.dropped r .abandoned none 0).passHeld := by
      simp [applyPageAbandon, Nat.not_le_of_lt h, hbusy, hrec, hr, State.dropRecord_eq]
    rw [request_ready hready, happly]
    rfl
  · refine request_refused hready ?_
    have hbad : (keyOk k && versionOk v) = false := by
      rw [← Bool.not_eq_true, Bool.and_eq_true, keyOk_iff, versionOk_iff]
      simpa only [and_assoc] using h
    simp [applyPageRelease, hbad]
  · refine request_refused hready ?_
    simp [applyPageRelease, hk, (versionOk_iff v).mpr ⟨h1, h2⟩, hnone]
  · show request _ (applyPageRelease k v) s = _
    have happly : applyPageRelease k v s =
        accept { s with store := (s.store.modify k v fun r => { r with retain := false }).evalFree k v } := by
      simp [applyPageRelease, hk, (versionOk_iff v).mpr ⟨h1, h2⟩, hr]
    have hfree : (r.state = .superseded ∨ r.state = .current) ↔ r.state ≠ .receiving := by
      cases r.state <;> simp
    rw [request_ready hready, happly, Store.evalFree_modify (r := r) _ k v
      (f := fun r => { r with retain := false }) (fun _ => rfl) (fun _ => rfl) hr]
    simp only [and_true, hfree]
    rfl
  · cases b <;> rfl
  · have hmod : st.modify k v (fun r => { r with refs := r.refs - 1 }) = st := by
      have : (st.directory.map fun r => if r.isFor k v then { r with refs := r.refs - 1 } else r) = st.directory :=
        (List.map_congr_left fun r hr => if_neg (mt PageRecord.isFor_iff.mp (hnone r hr))).trans (List.map_id' _)
      rw [Store.modify, this]
    have hfind : st.find k v = none :=
      List.find?_eq_none.mpr fun r hr => mt PageRecord.isFor_iff.mp (hnone r hr)
    show (st.modify k v _).evalFree k v = st
    rw [hmod, Store.evalFree, hfind]
  · subst hk hv
    show (st.modify r.key r.version _).evalFree r.key r.version = _
    rw [Store.evalFree_modify _ _ _ (f := fun r => { r with refs := r.refs - 1 }) (fun _ => rfl) (fun _ => rfl)
      (DistinctRecords.find hd hr)]
    simp only [Nat.sub_eq_zero_iff_le]

/-! ### The receive deadline (R15) -/

/-- Settles O17: the deadline is due, and the drop is that of R18 (`State.dropRecord_eq`). -/
theorem receiveTimeoutDropsRecord : Obligations.ReceiveTimeoutDropsRecord := by
  intro stream k v r d s hrun hstate hrec hdead hdue hr
  have hstate : (s.context stream).state = .receiving := hstate
  have hrec : (s.context stream).record = some (k, v) := hrec
  have hdead : (s.context stream).deadline = some d := hdead
  have heffect : s.receiveExpires stream = (s.dropped r .timeout none 0).passHeld := by
    simp [State.receiveExpires, hstate, hrec, hdead, (dueAt_some s.now d).mpr hdue, hr, State.dropRecord_eq]
  show taken (State.receiveExpires stream) s = _
  rw [taken_running _ _ hrun, heffect]

/-! ### Completion (R19) -/

theorem State.dropOvertaken_eq (v : Nat) (l : List PageRecord) (s : State) :
    s.dropOvertaken v l = l.foldl (fun x q => x.dropped q .overtaken none v) s := by
  induction l generalizing s with
  | nil => rfl
  | cons r l ih => rw [State.dropOvertaken, ih, State.dropRecord_eq, List.foldl_cons]

theorem Store.overtaken_eq (t : Store) (k : PageKey) (v : Nat) :
    t.overtaken k v = t.directory.filter fun q => decide (q.key = k ∧ q.state = .receiving ∧ q.version < v) := by
  simp [Store.overtaken, Bool.and_assoc]

theorem Store.find_modify_other (t : Store) (k : PageKey) {v w : Nat} (hw : w ≠ v) {f : PageRecord → PageRecord}
    (hk : ∀ r, (f r).key = r.key) (hv : ∀ r, (f r).version = r.version) : (t.modify k v f).find k w = t.find k w := by
  have hkeep : ∀ r : PageRecord, (if r.isFor k v then f r else r).isFor k w = r.isFor k w := fun r => by
    split
    · simp [PageRecord.isFor, hk, hv]
    · rfl
  simp only [Store.find, Store.modify, List.find?_map, Function.comp_def, hkeep]
  cases hf : t.directory.find? fun r => r.isFor k w with
  | none => rfl
  | some r =>
    obtain ⟨-, -, hrw⟩ := Store.find_mem (t := t) (k := k) (v := w) hf
    have hnot : ¬ r.isFor k v = true := fun h => hw (hrw.symm.trans (PageRecord.isFor_iff.mp h).2)
    rw [Option.map_some, if_neg hnot]

/-- Settles O21: the record that was CURRENT is another one than the completed (R1), so it is found after the change of the
completed one, and is freed or stays (`Store.evalFree_eq`); the overtaken drops are those of R18. -/
theorem pageCompletes : Obligations.PageCompletes := by
  intro k v stream r s hd hr hrec is directory contexts finish
  have his : ∀ w q, PageRecord.isFor q k w = is w q := fun w q => (Bool.decide_and _ _).symm
  have hdir : ∀ (t : Store) (w : Nat) (f : PageRecord → PageRecord),
      t.modify k w f = { t with directory := t.directory.map fun q => if is w q then f q else q } := fun t w f => by
    simp only [Store.modify, his]
  refine ⟨fun hnone => ?_, fun o ho => ?_⟩
  · unfold State.completePage
    rw [hnone]
    simp only [State.dropOvertaken_eq, Store.overtaken_eq, hdir]
    rfl
  · obtain ⟨hmem, hkey, hcur⟩ := Store.current_mem ho
    have hne : o.version ≠ v := fun e => by
      obtain ⟨hr', hrk, hrv⟩ := Store.find_mem hr
      rw [DistinctRecords.eq_of_same hd hmem hr' (hkey.trans hrk.symm) (e.trans hrv.symm), hrec] at hcur
      cases hcur
    have hfind : s.store.find k o.version = some o := hkey ▸ DistinctRecords.find hd hmem
    have hfind' : ((s.store.modify k v fun r => { r with state := .current, stream := none }).modify k o.version
        fun r => { r with state := .superseded }).find k o.version = some { o with state := .superseded } := by
      rw [Store.find_modify _ _ _ (f := fun r => { r with state := .superseded }) (fun _ => rfl) fun _ => rfl,
        Store.find_modify_other _ _ (f := fun r => { r with state := .current, stream := none }) hne (fun _ => rfl)
          fun _ => rfl, hfind]
      rfl
    have hfreed := Store.evalFree_eq _ k o.version _ hfind'
    simp only [true_or, true_and, hdir] at hfreed
    have heq : s.completePage k v stream = finish { s with
        rx := { s.rx with contexts := contexts },
        store := Store.evalFree { s.store with
          directory := directory.map fun q => if is o.version q then { q with state := .superseded } else q }
            k o.version } o.version := by
      unfold State.completePage
      rw [ho]
      simp only [State.dropOvertaken_eq, Store.overtaken_eq, hdir]
      rfl
    rw [heq, hfreed]

/-! ### The completion notice (R20, R43) -/

theorem State.workEntries_eq (k : PageKey) (v : Nat) (l : List PlateId) (s : State) :
    s.workEntries k v l = l.foldl (fun u p => u.workEntry k v p) s := by
  induction l generalizing s with
  | nil => rfl
  | cons p l ih => rw [State.workEntries, ih, List.foldl_cons]

/-- A record that has left is found no more. -/
theorem Store.find_left {t u : Store} {k : PageKey} {v : Nat}
    (h : u.directory = t.directory.filter fun q => !decide (q.key = k ∧ q.version = v)) : u.find k v = none := by
  refine List.find?_eq_none.mpr fun q hq hf => ?_
  rw [h, List.mem_filter] at hq
  simpa [PageRecord.isFor_iff.mp hf] using hq.2

/-- Settles O22: the entries worked one after another, then the answer of R23 with the freeing evaluation. -/
theorem completionNoticeWorked : Obligations.CompletionNoticeWorked := by
  intro s hrun
  have hexec : ∀ u, s.workNotice = u → exec .completionNotice s = .next u.finish := fun u hu =>
    (taken_running State.workNotice s hrun).trans (by rw [hu])
  refine ⟨fun hnone => hexec _ ?_, fun n ns hn => ?_⟩
  · rw [State.workNotice, hnone]
  · intro ids w
    have hwork : s.workNotice = w.answerNotice n := by
      rw [State.workNotice, hn]
      simp only [State.workEntries_eq]
      rfl
    refine ⟨fun hnone => hexec _ ?_, fun r hr => ?_⟩
    · rw [hwork, State.answerNotice, hnone]
    · intro free
      refine hexec _ ?_
      have hstore : Store.evalFree { w.store with notices := w.store.notices.tail } n.key n.version =
          if free then
            { w.store with
              notices := w.store.notices.tail,
              directory := w.store.directory.filter fun q => !decide (q.key = n.key ∧ q.version = n.version),
              idleCells := w.store.idleCells ++ r.chain, freeCells := w.store.freeCells + r.height }
          else { w.store with notices := w.store.notices.tail } := by
        have hr' : ({ w.store with notices := w.store.notices.tail } : Store).find n.key n.version = some r := hr
        rw [Store.evalFree_eq _ n.key n.version r hr']
        simp only [free, decide_eq_true_eq]
      have hkept : ((Store.evalFree { w.store with notices := w.store.notices.tail } n.key n.version).find n.key
          n.version).isSome = !free := by
        rw [hstore]
        cases free with
        | true => rw [if_pos rfl, Store.find_left (t := w.store) rfl]; rfl
        | false =>
          have : ({ w.store with notices := w.store.notices.tail } : Store).find n.key n.version = some r := hr
          rw [if_neg Bool.false_ne_true, this]
          rfl
      rw [hwork, State.answerNotice, hr]
      dsimp only
      rw [hkept, hstore]

end Sys2Proof.Machine
end


-- ==== Sys2Proof/Proofs/NeedCheck.lean ====
section
/-! PROOF. The build-need check, the pending list worked, and a completion notice's work on one entry (chapter 2). -/

namespace Sys2Proof.Machine

/-! ### The parts of the check (R34, R36, R38, R40) -/

theorem bindPosition_eq (t : Store) (work : Option (PageKey × Nat)) (q : Position) :
    bindPosition t work q = match q.key with
      | none => .blank
      | some k =>
        match t.current k with
        | none => .waiting
        | some r => if work.map Prod.fst = some k then .bound k ((work.map Prod.snd).getD 0) else .bound k r.version := by
  unfold bindPosition
  cases q.key with
  | none => rfl
  | some k =>
    dsimp only
    cases t.current k with
    | none => rfl
    | some r =>
      cases work with
      | none => rfl
      | some w =>
        obtain ⟨k', v⟩ := w
        exact if_congr (Option.some_inj (a := k') (b := k)).symm rfl rfl

theorem Position.inNeed_iff (t : Store) (q : Position) :
    q.inNeed t = true ↔ ∃ k, q.key = some k ∧ ∃ r, t.current k = some r ∧ q.imaged < r.version := by
  unfold Position.inNeed
  cases q.key with
  | none => simp
  | some k => cases h : t.current k <;> simp [h]

theorem State.needsBuild_iff (s : State) (e : MapEntry) : s.needsBuild e = true ↔
    ¬ ((∃ b ∈ s.plates.builds, b.plate = e.id ∧ b.cause = .none_) ∨
      ∃ it ∈ s.line.items, it.plate = e.id ∧ it.cause = .none_) ∧
    ∃ q ∈ e.positions, ∃ k, q.key = some k ∧ ∃ r, s.store.current k = some r ∧ q.imaged < r.version := by
  have hcur : s.hasCurrentPlate e.id = true ↔ (∃ b ∈ s.plates.builds, b.plate = e.id ∧ b.cause = .none_) ∨
      ∃ it ∈ s.line.items, it.plate = e.id ∧ it.cause = .none_ := by
    simp [State.hasCurrentPlate, State.currentBuild, State.currentItem]
  simp only [State.needsBuild, Bool.and_eq_true, Bool.not_eq_true', ← Bool.not_eq_true, hcur, List.any_eq_true,
    Position.inNeed_iff]

theorem Plates.freeRecord_eq_none {t : Plates} (h : ∀ n < 32, ∃ b ∈ t.builds, b.bid = n) : t.freeRecord = none := by
  refine List.find?_eq_none.mpr fun n hn hall => ?_
  obtain ⟨b, hb, rfl⟩ := h n (List.mem_range.mp hn)
  simpa using List.all_eq_true.mp hall b hb

/-- The lowest-numbered free record is found (R34). -/
theorem Plates.freeRecord_eq_some {t : Plates} {n : Nat} (hn : n < 32) (hfree : ¬ ∃ b ∈ t.builds, b.bid = n)
    (hlow : ∀ m < n, ∃ b ∈ t.builds, b.bid = m) : t.freeRecord = some n := by
  have hall : ∀ m, (t.builds.all fun b => decide (b.bid ≠ m)) = true ↔ ¬ ∃ b ∈ t.builds, b.bid = m := by simp
  refine List.find?_range_eq_some.mpr ⟨(hall n).mpr hfree, List.mem_range.mpr hn, fun m hm => ?_⟩
  rw [Bool.not_eq_true', ← Bool.not_eq_true, hall]
  exact fun h => h (hlow m hm)

/-! ### The three outcomes (R38, R40, R41) -/

theorem State.needCheck_unneeded {s : State} {p : PlateId} {e : MapEntry} (he : s.entry p = some e)
    (hneed : ¬ s.needsBuild e = true) (work : Option (PageKey × Nat)) : s.needCheck p work = s.leavePending p := by
  simp only [State.needCheck, he, if_neg hneed]

theorem State.needCheck_waits {s : State} {p : PlateId} {e : MapEntry} (he : s.entry p = some e)
    (hneed : s.needsBuild e = true) (hfree : s.plates.freeRecord = none) (work : Option (PageKey × Nat)) :
    s.needCheck p work = s.joinPending p := by
  simp only [State.needCheck, he, hneed, if_true, hfree]

theorem State.needCheck_creates {s : State} {p : PlateId} {e : MapEntry} {bid : Nat} (he : s.entry p = some e)
    (hneed : s.needsBuild e = true) (hfree : s.plates.freeRecord = some bid) (work : Option (PageKey × Nat)) :
    s.needCheck p work = (s.createBuild e work bid).leavePending p := by
  simp only [State.needCheck, he, hneed, if_true, hfree]

/-- A build inserted on a free record is the one found there. -/
theorem find_insertBuild {b : Build} {l : List Build} (h : ∀ c ∈ l, c.bid ≠ b.bid) :
    ((insertBuild b l).find? fun c => decide (c.bid = b.bid)) = some b := by
  induction l with
  | nil => simp [insertBuild]
  | cons c l ih =>
    have hc : decide (c.bid = b.bid) = false := by simpa using h c List.mem_cons_self
    unfold insertBuild
    split
    · simp
    · rw [List.find?_cons, hc]
      exact ih fun d hd => h d (List.mem_cons_of_mem _ hd)

/-- The queue after the builds of its class (R57). -/
theorem State.joinQueue_eq (bid : Nat) (s : State) :
    s.joinQueue bid =
      let before := s.plates.queue.takeWhile fun n => decide (s.classOf n ≤ s.classOf bid)
      { s with
        passOwed := true, plates := { s.plates with queue := before ++ bid :: s.plates.queue.drop before.length } } := by
  have hle : (fun n => !decide (s.classOf bid < s.classOf n)) = fun n => decide (s.classOf n ≤ s.classOf bid) := by
    funext n
    rw [← decide_not]
    exact decide_eq_decide.mpr Nat.not_lt
  rw [State.joinQueue, insertBefore_eq, hle]

theorem any_waiting_iff (l : List Binding) : (l.any fun b => decide (b = .waiting)) = true ↔ .waiting ∈ l := by
  simp

/-- The class of the plate of an entry whose generation changes. -/
theorem State.classOf_created {s t : State} {e : MapEntry} {b : Build} {g : Nat} (he : s.entry e.id = some e)
    (hmap : t.plates.map = s.plates.map.map fun f => if f.id = e.id then { f with generation := g } else f)
    (hbuild : t.build b.bid = some b) (hplate : b.plate = e.id) : t.classOf b.bid = e.cls := by
  have h := s.classOfPlate_modifyEntry e.id (f := fun f => { f with generation := g }) (fun _ => rfl) (fun _ => rfl) e.id
  have hclass : t.classOfPlate e.id = s.classOfPlate e.id := by
    rw [← h]
    simp only [State.classOfPlate, State.entry, hmap, State.modifyEntry]
  have hold : s.classOfPlate e.id = e.cls := by rw [State.classOfPlate, he]; rfl
  simp only [State.classOf, hbuild, Option.map_some, Option.getD_some, hplate, hclass, hold]

/-! ### The pending list worked (R42) -/

/-- The first `n` entries of the list leave it, each with its build-need check. -/
def State.worked (s : State) (l : List PlateId) : State :=
  l.foldl (fun u p => (u.leavePending p).needCheck p none) s

theorem State.workPendingFrom_eq (l : List PlateId) (n : Nat) (s : State) (hn : n ≤ l.length)
    (hsame : ∀ k ≤ n, (s.worked (l.take k)).plates.builds.length = s.plates.builds.length) :
    (n = l.length → s.workPendingFrom l = s.worked (l.take n)) ∧
    (n < l.length → s.plates.builds.length < (s.worked (l.take (n + 1))).plates.builds.length →
      s.workPendingFrom l = s.worked (l.take (n + 1))) := by
  induction l generalizing n s with
  | nil => exact ⟨fun h => by rw [h]; rfl, fun h => absurd h (Nat.not_lt_zero n)⟩
  | cons p l ih =>
    cases n with
    | zero =>
      refine ⟨fun h => by simp at h, fun _ hlt => ?_⟩
      exact if_pos hlt
    | succ n =>
      have hone : ((s.leavePending p).needCheck p none).plates.builds.length = s.plates.builds.length :=
        hsame 1 (Nat.succ_le_succ (Nat.zero_le n))
      have hrec : s.workPendingFrom (p :: l) = ((s.leavePending p).needCheck p none).workPendingFrom l :=
        if_neg (by rw [hone]; exact Nat.lt_irrefl _)
      obtain ⟨hall, hcreate⟩ := ih n ((s.leavePending p).needCheck p none) (Nat.le_of_succ_le_succ hn)
        fun k hk => (hsame (k + 1) (Nat.succ_le_succ hk)).trans hone.symm
      rw [hrec]
      refine ⟨fun h => hall (Nat.succ.inj h), fun h hlt => hcreate (Nat.lt_of_succ_lt_succ h) ?_⟩
      rw [hone]
      exact hlt

/-- Settles O26: the condition of R38, the record of R34, the bindings of R40 and the place in the queue of R57, each by
its lemma above; the pending list by `State.workPendingFrom_eq`. -/
theorem buildNeedCheck : Obligations.BuildNeedCheck := by
  refine ⟨fun p work s => ?_, fun n s => State.workPendingFrom_eq s.plates.pendingList n s⟩
  intro current hasPlate used others
  refine ⟨fun hnone => ?_, fun e he => ?_⟩
  · have hnone : s.entry p = none := hnone
    simp only [State.needCheck, hnone]
  · intro need
    have hid : e.id = p := State.entry_id he
    have hentry : s.entry p = some e := he
    have hneed : s.needsBuild e = true ↔ need := by
      rw [State.needsBuild_iff, hid]
      exact Iff.rfl
    refine ⟨fun hno => ?_, fun hyes hall => ?_, fun bid hyes hlt hfree hlow => ?_⟩
    · exact State.needCheck_unneeded hentry (mt hneed.mp hno) work
    · rw [State.needCheck_waits hentry (hneed.mpr hyes) (Plates.freeRecord_eq_none hall)]
      unfold State.joinPending
      split <;> rfl
    · intro generation bindings b u
      rw [State.needCheck_creates hentry (hneed.mpr hyes) (Plates.freeRecord_eq_some hlt hfree hlow)]
      have hbind : e.positions.map (bindPosition s.store work) = bindings :=
        List.map_congr_left fun q _ => bindPosition_eq s.store work q
      subst hid
      unfold State.createBuild
      simp only [hbind, Store.addRefs_eq, any_waiting_iff]
      by_cases hw : .waiting ∈ bindings
      · simp only [u, b, if_pos hw]
        rfl
      · have hfree' : ∀ c ∈ s.plates.builds, c.bid ≠ b.bid := fun c hc e => hfree ⟨c, hc, e⟩
        have hclass : u.classOf bid = e.cls := State.classOf_created (b := b) (g := generation) hentry rfl
          (find_insertBuild hfree') rfl
        rw [← hclass]
        simp only [u, b, if_neg hw, State.joinQueue_eq]
        rfl

end Sys2Proof.Machine
end


-- ==== Sys2Proof/Proofs/NoticeEntry.lean ====
section
/-! PROOF. The work of a completion notice on one entry: the rebinding of a waiting build, the retirement of a dispatched
one and of an item (R43 to R46). -/

namespace Sys2Proof.Machine

/-! ### Rebinding (R44) -/

/-- The binding that a position has after the rebinding to version `v` of key `k`. -/
def Binding.broughtUp (k : PageKey) (v : Nat) (q : Position) (old : Binding) : Binding :=
  if q.key ≠ some k then old
  else match old with
    | .waiting => .bound k v
    | .bound k' w => if w < v then .bound k v else .bound k' w
    | .blank => .blank

/-- The store after the rebinding of a position of the key. -/
def Store.broughtUp (k : PageKey) (v : Nat) (t : Store) (old : Binding) : Store :=
  match old with
  | .waiting => t.addRef k v
  | .bound _ w => if w < v then (t.dropRefs [.bound k w]).addRef k v else t
  | .blank => t

theorem rebindPosition_binding (k : PageKey) (v : Nat) (q : Position) (old : Binding) (t : Store) :
    (rebindPosition k v q old t).1 = old.broughtUp k v q := by
  unfold rebindPosition Binding.broughtUp
  by_cases hq : q.key = some k
  · rw [if_pos hq, if_neg (not_not.mpr hq)]
    cases old with
    | bound k' w =>
      dsimp only
      split <;> rfl
    | waiting => rfl
    | blank => rfl
  · rw [if_neg hq, if_pos hq]

theorem rebindPosition_other {k : PageKey} {q : Position} (hq : q.key ≠ some k) (v : Nat) (old : Binding) (t : Store) :
    (rebindPosition k v q old t).2 = t := by
  unfold rebindPosition
  rw [if_neg hq]

theorem rebindPosition_store {k : PageKey} {q : Position} (hq : q.key = some k) (v : Nat) (old : Binding) (t : Store) :
    (rebindPosition k v q old t).2 = t.broughtUp k v old := by
  unfold rebindPosition Store.broughtUp
  rw [if_pos hq]
  cases old with
  | bound k' w =>
    dsimp only
    split <;> rfl
  | waiting => rfl
  | blank => rfl

/-- The bindings are rebound place by place. -/
theorem rebindPositions_get (k : PageKey) (v : Nat) (qs : List Position) (bs : List Binding) (t : Store) {n : Nat}
    {q : Position} {old : Binding} (hq : qs[n]? = some q) (hb : bs[n]? = some old) :
    (rebindPositions k v qs bs t).1[n]? = some (old.broughtUp k v q) := by
  induction qs generalizing bs t n with
  | nil => simp at hq
  | cons q' qs ih =>
    cases bs with
    | nil => simp at hb
    | cons b bs =>
      cases n with
      | zero =>
        obtain rfl : q' = q := by simpa using hq
        obtain rfl : b = old := by simpa using hb
        exact congrArg some (rebindPosition_binding k v q' b t)
      | succ n => exact ih bs _ (by simpa using hq) (by simpa using hb)

/-- Positions of other keys leave the store. -/
theorem rebindPositions_others {k : PageKey} (v : Nat) {qs : List Position} (h : ∀ q ∈ qs, q.key ≠ some k)
    (bs : List Binding) (t : Store) : (rebindPositions k v qs bs t).2 = t := by
  induction qs generalizing bs t with
  | nil => cases bs <;> rfl
  | cons q qs ih =>
    cases bs with
    | nil => rfl
    | cons b bs =>
      show (rebindPositions k v qs bs (rebindPosition k v q b t).2).2 = t
      rw [ih (fun q' hq' => h q' (List.mem_cons_of_mem _ hq')), rebindPosition_other (h q List.mem_cons_self)]

/-- One position of the key makes the whole change of the store. -/
theorem rebindPositions_only (k : PageKey) (v : Nat) (qs : List Position) (bs : List Binding) (t : Store) {n : Nat}
    {q : Position} {old : Binding} (hq : qs[n]? = some q) (hb : bs[n]? = some old)
    (honly : ∀ m q', m ≠ n → qs[m]? = some q' → q'.key ≠ some k) :
    (rebindPositions k v qs bs t).2 = (rebindPosition k v q old t).2 := by
  induction qs generalizing bs t n with
  | nil => simp at hq
  | cons q' qs ih =>
    cases bs with
    | nil => simp at hb
    | cons b bs =>
      show (rebindPositions k v qs bs (rebindPosition k v q' b t).2).2 = _
      cases n with
      | zero =>
        obtain rfl : q' = q := by simpa using hq
        obtain rfl : b = old := by simpa using hb
        refine rebindPositions_others v (fun q'' hq'' => ?_) bs _
        obtain ⟨m, hm, rfl⟩ := List.mem_iff_getElem.mp hq''
        exact honly (m + 1) _ (Nat.succ_ne_zero m) (by simp [hm])
      | succ n =>
        have hother : q'.key ≠ some k := honly 0 q' (Nat.succ_ne_zero n).symm rfl
        rw [rebindPosition_other hother]
        exact ih bs t (by simpa using hq) (by simpa using hb) fun m q'' hm hq'' =>
          honly (m + 1) q'' (fun e => hm (Nat.succ.inj e)) (by simpa using hq'')

/-- A waiting build is rebound in place, and joins the queue when nothing of it waits any more (R44). -/
theorem State.rebindBuild_eq (e : MapEntry) (b : Build) (k : PageKey) (v : Nat) (s : State) :
    let r := rebindPositions k v e.positions b.bindings s.store
    let ready := b.state = .open_ ∧ Binding.waiting ∉ r.1
    let u : State := { s with
      store := r.2,
      plates := { s.plates with builds := s.plates.builds.map fun c =>
        if c.bid = b.bid then { c with bindings := r.1, state := if ready then .ready else c.state } else c } }
    s.rebindBuild e b k v = if ready then u.joinQueue b.bid else u := by
  intro r ready u
  have hready : (decide (b.state = .open_) && !(r.1.any fun x => decide (x = .waiting))) = true ↔ ready := by
    rw [Bool.and_eq_true, decide_eq_true_eq, Bool.not_eq_true', ← Bool.not_eq_true, any_waiting_iff]
  unfold State.rebindBuild
  simp only [hready, r]
  rfl

/-! ### The work on an entry (R43) -/

theorem BuildState.waits_iff (b : BuildState) : b.waits = true ↔ b = .open_ ∨ b = .ready := by
  cases b <;> simp [BuildState.waits]

/-- What becomes of the current build of the entry's plate id (R44, R45). -/
inductive BuildWorked (s : State) (p : PlateId) (e : MapEntry) (k : PageKey) (v : Nat) : State → Prop
  | none (h : s.currentBuild p = none) : BuildWorked s p e k v s
  | waiting (b : Build) (h : s.currentBuild p = some b) (hw : b.state.waits = true) :
      BuildWorked s p e k v (s.rebindBuild e b k v)
  | dispatched (b : Build) (h : s.currentBuild p = some b) (hw : b.state.waits = false) :
      BuildWorked s p e k v (s.retireBuild b .superseded)

/-- After the build, the current item of the plate id is retired when it carries the key, then the build-need check is made
(R43, R46). -/
theorem State.workEntry_eq {s u : State} {p : PlateId} {e : MapEntry} {k : PageKey} {v : Nat} (he : s.entry p = some e)
    (hu : BuildWorked s p e k v u) : s.workEntry k v p = State.needCheck p (some (k, v)) (match u.currentItem p with
      | some it => if it.carries k then u.retireItem it.order .superseded else u
      | none => u) := by
  unfold State.workEntry
  simp only [he]
  congr 1
  cases hu with
  | none h =>
    simp only [h]
    cases s.currentItem p <;> rfl
  | waiting b h hw =>
    simp only [h, hw, if_true]
    cases State.currentItem _ p <;> rfl
  | dispatched b h hw =>
    simp only [h, hw, Bool.false_eq_true, if_false]
    cases State.currentItem _ p <;> rfl

/-- Settles O32: the build is rebound (`State.rebindBuild_eq`) or retired, then the item and the check of
`State.workEntry_eq`; the bindings and the counts place by place by the lemmas on `rebindPositions`. -/
theorem noticeWorksEntry : Obligations.NoticeWorksEntry := by
  intro k v p e s he carries thenItem
  have hentry : s.entry p = some e := he
  refine ⟨fun hnone => State.workEntry_eq hentry (.none hnone), fun b i hb ho hr hi => ?_, fun b hb hw => ?_,
    fun bs st => ?_⟩
  · have hwaits : b.state.waits = false := by
      rw [← Bool.not_eq_true, BuildState.waits_iff]
      exact fun h => h.elim ho hr
    refine (State.workEntry_eq hentry (.dispatched b hb hwaits)).trans ?_
    simp only [State.retireBuild, hi]
    rfl
  · intro r ready u
    have hwaits : b.state.waits = true := (BuildState.waits_iff _).mpr hw
    refine ⟨?_, fun n q old hq hold => rebindPositions_get k v e.positions b.bindings s.store hq hold⟩
    refine (State.workEntry_eq hentry (.waiting b hb hwaits)).trans ?_
    rw [State.rebindBuild_eq]
    rfl
  · intro raised
    have hraised : ∀ t : Store, t.addRef k v = raised t := fun t => by
      simp only [raised, Store.addRef, Store.modify, PageRecord.isFor_iff]
    refine ⟨fun hno => rebindPositions_others v hno bs st, fun n q old hq hold hkey honly => ?_⟩
    rw [rebindPositions_only k v e.positions bs st hq hold honly, rebindPosition_store hkey]
    cases old with
    | bound k' w => simp only [Store.broughtUp, hraised]
    | waiting => exact hraised st
    | blank => rfl

end Sys2Proof.Machine
end


-- ==== Sys2Proof/Proofs/Transfers.lean ====
section
/-! PROOF. The ends of the transfers at the store port: a line written and a segment read (chapters 1 and 4). -/

namespace Sys2Proof.Machine

/-! ### The end of a transfer (R6) -/

theorem insideStore_iff (cell off n : Nat) : insideStore cell off n = true ↔ cell < 32768 ∧ off + n ≤ 131072 := by
  rw [insideStore, Bool.and_eq_true]
  exact and_congr decide_eq_true_iff decide_eq_true_iff

theorem transferEnd_outside {s : State} {t : Transfer} (hb : s.store.port.busy = some t) (hrun : s.resetAsserted = false)
    (h : s.transferInside t = false) : exec .transferEnd s = .fault .outsideRasterStore := by
  rw [execTransferEnd_eq s t hb hrun, if_pos h]

theorem transferEnd_inside {s : State} {t : Transfer} (hb : s.store.port.busy = some t) (hrun : s.resetAsserted = false)
    (h : s.transferInside t = true) : exec .transferEnd s = .next (s.transferEnds t).finish := by
  rw [execTransferEnd_eq s t hb hrun, if_neg (by simp [h])]

/-- A request for the port leaves nothing to grant. -/
theorem State.arbitratePort_requestPort (r : Requester) (s : State) :
    (s.requestPort r).arbitratePort =
      { s with store := { s.store with port := (s.store.port.setWait r true).arbitrate } } := by
  simp only [State.arbitratePort, State.requestPort, Port.request, Port.arbitrate_idem]

/-! ### The receive writer (R7, R14) -/

/-- Settles O18: the bytes by `Memory.read_writeBytes`; the end of the transfer, case by case of R7 and R14. -/
theorem lineTransferEnds : Obligations.LineTransferEnds := by
  intro j s hmem hrun hbusy hwriter size off bytes memory ctx port
  have hinside : s.transferInside ⟨.receive, false⟩ = insideStore j.cell off size := by
    simp only [State.transferInside, hwriter]
    rfl
  let idle : State := { s with store := { s.store with port := port } }
  have hends : s.transferEnds ⟨.receive, false⟩ = (idle.lineWritten j).arbitratePort := by
    simp only [State.transferEnds, State.takeTransfer, hwriter]
    rfl
  have hexec : j.cell < 32768 → off + size ≤ 131072 →
      exec .transferEnd s = .next (idle.lineWritten j).arbitratePort.finish := fun h1 h2 => by
    rw [transferEnd_inside hbusy hrun (by rw [hinside, insideStore_iff]; exact ⟨h1, h2⟩), hends]
  let written : State := { idle with rx := { s.rx with writer := none }, store := { idle.store with memory := memory } }
  have hlast : j.nextLine + 1 = 64 → idle.lineWritten j =
      (if ctx.state = .completing ∧ ctx.record = some (j.key, j.version) then
        written.completePage j.key j.version j.stream else written).passHeld := fun h =>
    if_pos h
  refine ⟨fun a => Memory.read_writeBytes _ _ a bytes hmem, fun h => ?_, fun h1 h2 hline => ?_, fun h1 h2 hline hno => ?_,
    fun h1 h2 hline hstate hrec => ?_⟩
  · refine transferEnd_outside hbusy hrun ?_
    rw [hinside, ← Bool.not_eq_true, insideStore_iff]
    exact h
  · have hmore : idle.lineWritten j = State.requestPort .receive { idle with
        rx := { s.rx with writer := some { j with nextLine := j.nextLine + 1 } },
        store := { idle.store with memory := memory } } := if_neg hline
    rw [hexec h1 h2, hmore, State.arbitratePort_requestPort]
    rfl
  · rw [hexec h1 h2, hlast hline, if_neg hno]
  · rw [hexec h1 h2, hlast hline, if_pos ⟨hstate, hrec⟩]

/-! ### The Swath Composer (R83, R84, R87) -/

theorem Job.transferAt_iff (j : Job) (swath place y : Nat) (p : Placement) : j.transferAt swath place = some (p, y) ↔
    j.positions[place % 4]? = some (some p) ∧ y = 32 * swath + place / 4 ∧ y < j.l ∧ p.y0 ≤ y ∧ y < p.y0 + p.t ∧
      0 < p.v := by
  have hget : j.positions.getD (place % 4) none = some p ↔ j.positions[place % 4]? = some (some p) := by
    rw [List.getD_eq_getElem?_getD]
    cases j.positions[place % 4]? <;> simp
  unfold Job.transferAt
  dsimp only
  constructor
  · intro h
    split at h
    · cases h
    · rename_i q hq
      split at h
      · rename_i hc
        obtain ⟨rfl, rfl⟩ := Prod.mk.inj (Option.some.inj h)
        exact ⟨hget.mp hq, rfl, hc⟩
      · cases h
  · rintro ⟨hp, rfl, hc⟩
    rw [hget.mpr hp]
    exact if_pos hc

theorem Job.nextPlace_iff (j : Job) (swath from_ n : Nat) : j.nextPlace swath from_ = some n ↔
    from_ ≤ n ∧ n < 128 ∧ j.transferAt swath n ≠ none ∧ ∀ m, from_ ≤ m → m < n → j.transferAt swath m = none := by
  unfold Job.nextPlace
  rw [List.find?_range_eq_some]
  simp only [Bool.and_eq_true, decide_eq_true_eq, Option.isSome_iff_ne_none, List.mem_range, Bool.not_eq_true',
    ← Bool.not_eq_true, not_and, not_not]
  constructor
  · rintro ⟨⟨h1, h2⟩, h3, h4⟩
    exact ⟨h1, h3, h2, fun m hf hm => h4 m hm hf⟩
  · rintro ⟨h1, h3, h2, h4⟩
    exact ⟨⟨h1, h2⟩, h3, fun m hm hf => h4 m hf hm⟩

/-- A pixel laid down after `v` others. -/
theorem testBit_layPixel (row x0 v x : Nat) (b : Bool) :
    (if b then row ||| (1 <<< (x0 + v)) else row).testBit x = (row.testBit x || (b && decide (x = x0 + v))) := by
  cases b with
  | false => simp
  | true => simp [Nat.one_shiftLeft, Nat.testBit_two_pow, eq_comm]

/-- The row of the first `v` pixels of a placement (R83). -/
theorem testBit_layPixels (x0 v x : Nat) (pixel : Nat → Bool) :
    ((List.range v).foldl (fun row n => if pixel n then row ||| (1 <<< (x0 + n)) else row) 0).testBit x =
      (decide (x0 ≤ x ∧ x < x0 + v) && pixel (x - x0)) := by
  induction v with
  | zero => simp
  | succ v ih =>
    rw [List.range_succ, List.foldl_append, List.foldl_cons, List.foldl_nil, testBit_layPixel, ih]
    by_cases hx : x = x0 + v
    · subst hx
      simp
    · have : (x0 ≤ x ∧ x < x0 + v) ↔ (x0 ≤ x ∧ x < x0 + (v + 1)) := by omega
      simp [this, hx]

theorem Placement.testBit_segment (p : Placement) (m : List Host.Cell) (a x : Nat) : (p.segment m a).testBit x =
    (decide (p.x0 ≤ x ∧ x < p.x0 + p.v) && pixelAt m a (pagePixel p.rotated p.w (x - p.x0))) :=
  testBit_layPixels p.x0 p.v x fun n => pixelAt m a (pagePixel p.rotated p.w n)

/-- The FREE buffer of the lower number (R87). -/
theorem Composer.freeBuffer_eq {c : Composer} {n : Nat} {b : Buffer}
    (h : (n = 0 ∧ b = c.buf0 ∧ b.state = .free) ∨ (n = 1 ∧ b = c.buf1 ∧ b.state = .free ∧ c.buf0.state ≠ .free)) :
    c.freeBuffer = some n := by
  unfold Composer.freeBuffer
  rcases h with ⟨rfl, rfl, h⟩ | ⟨rfl, rfl, h, h0⟩
  · rw [if_pos h]
  · rw [if_neg h0, if_pos h]

theorem Composer.startFill_none {c : Composer} (h : c.job = none ∨ c.fill ≠ none ∨ (∃ j, c.job = some j ∧ j.n ≤ c.nextFill) ∨
    (c.buf0.state ≠ .free ∧ c.buf1.state ≠ .free)) : c.startFill = (c, false) := by
  unfold Composer.startFill
  split
  · rename_i j n hj hf hn
    rcases h with h | h | ⟨j', hj', h⟩ | ⟨h0, h1⟩
    · rw [hj] at h
      cases h
    · exact absurd hf h
    · obtain rfl := Option.some.inj (hj.symm.trans hj')
      rw [if_neg (Nat.not_lt_of_le h)]
    · rw [Composer.freeBuffer, if_neg h0, if_neg h1] at hn
      cases hn
  · rfl

/-- The buffer of a fill with a segment combined into its row (R81, R88). -/
def Composer.combined (c : Composer) (f : Fill) (p : Placement) (y : Nat) (m : List Host.Cell) : Buffer :=
  let b := if f.buffer = 0 then c.buf0 else c.buf1
  let line := sourceLine p.rotated p.h p.t (y - p.y0)
  let seg := p.segment m (p.chain.getD (line / 64) 0 * 131072 + line % 64 * p.width * 32)
  { b with rows := b.rows.set (f.place / 4) (b.rows.getD (f.place / 4) 0 ||| seg) }

section
variable {c : Composer} {j : Job} {f : Fill} {p : Placement} {y : Nat} (hj : c.job = some j) (hf : c.fill = some f)
  (hat : j.transferAt f.swath f.place = some (p, y)) (m : List Host.Cell)
include hj hf hat

theorem Composer.transferEnd_goesOn {place : Nat} (hnext : j.nextPlace f.swath (f.place + 1) = some place) :
    c.transferEnd m = ({ c.setBuffer f.buffer (c.combined f p y m) with fill := some { f with place := place } }, true) := by
  simp only [Composer.transferEnd, hj, hf, hat, hnext]
  rfl

theorem Composer.transferEnd_completes (hnext : j.nextPlace f.swath (f.place + 1) = none) :
    c.transferEnd m =
      ({ c.setBuffer f.buffer { c.combined f p y m with state := .full } with fill := none } : Composer).startFills := by
  simp only [Composer.transferEnd, hj, hf, hat, hnext]
  rfl

end

/-- A composer that takes a new value, and the port granted after that. -/
theorem State.arbitratePort_putComposer (i : Imager) (r : Composer × Bool) (s : State) :
    (s.putComposer i r).arbitratePort =
      { s with
        chan := s.chan.set i { s.chan.get i with composer := r.1 },
        store := { s.store with
          port := (if r.2 then s.store.port.setWait (Requester.ofImager i) true else s.store.port).arbitrate } } := by
  obtain ⟨c, wait⟩ := r
  cases wait with
  | false => rfl
  | true =>
    show (State.requestPort (Requester.ofImager i) _).arbitratePort = _
    rw [State.arbitratePort_requestPort]
    rfl

theorem State.transferEnds_composer (i : Imager) (s : State) :
    s.transferEnds ⟨Requester.ofImager i, false⟩ =
      let r := (s.chan.get i).composer.transferEnd s.store.memory
      let port : Port := { s.store.port with busy := none }
      { s with
        chan := s.chan.set i { s.chan.get i with composer := r.1 },
        store := { s.store with
          port := (if r.2 then port.setWait (Requester.ofImager i) true else port).arbitrate } } := by
  have hread : s.transferEnds ⟨Requester.ofImager i, false⟩ = State.arbitratePort (State.segmentRead i
      { s with store := { s.store with port := { s.store.port with busy := none } } }) := by
    cases i <;> rfl
  rw [hread, State.segmentRead, State.arbitratePort_putComposer]
  rfl

theorem State.transferInside_composer (i : Imager) (s : State) :
    s.transferInside ⟨Requester.ofImager i, false⟩ = (s.chan.get i).composer.transferInside := by
  cases i <;> rfl

/-- A fill starts in the FREE buffer of the lower number (R87, R88). -/
theorem Composer.startFill_some {c : Composer} {j : Job} {n : Nat} {b : Buffer} (hj : c.job = some j) (hf : c.fill = none)
    (hlt : c.nextFill < j.n)
    (hb : (n = 0 ∧ b = c.buf0 ∧ b.state = .free) ∨ (n = 1 ∧ b = c.buf1 ∧ b.state = .free ∧ c.buf0.state ≠ .free)) :
    c.startFill = match j.nextPlace c.nextFill 0 with
      | some place =>
        ({ ({ c with nextFill := c.nextFill + 1 } : Composer).setBuffer n ⟨.filling, c.nextFill, List.replicate 32 0⟩ with
          fill := some ⟨n, c.nextFill, place⟩ }, true)
      | none =>
        (({ c with nextFill := c.nextFill + 1 } : Composer).setBuffer n ⟨.full, c.nextFill, List.replicate 32 0⟩, false) := by
  unfold Composer.startFill
  rw [hj, hf, Composer.freeBuffer_eq hb]
  exact if_pos hlt

/-- Settles O20: the end of a transfer by `State.transferEnds_composer` and the composer's part of it, the places, the
segment and the start of a fill each by its lemma above. -/
theorem segmentTransferEnds : Obligations.SegmentTransferEnds := by
  refine ⟨fun i s hrun => ?_, fun j swath from_ n => j.nextPlace_iff swath from_ n,
    fun j swath place y p => j.transferAt_iff swath place y p, fun p m a x => p.testBit_segment m a x,
    fun c => ⟨fun j n b hj hf hlt hb => ?_, fun h => Composer.startFill_none h, rfl⟩⟩
  · intro who port c
    have hwho : who = Requester.ofImager i := by cases i <;> rfl
    refine ⟨fun r hbusy => ?_, fun hbusy hout => ?_, fun j f p y hbusy hj hf hat hin => ?_⟩
    · rw [transferEnd_inside hbusy hrun rfl]
      rfl
    · rw [hwho] at hbusy
      exact transferEnd_outside hbusy hrun ((s.transferInside_composer i).trans hout)
    · rw [hwho] at hbusy
      intro b line seg rows
      have hexec := (transferEnd_inside hbusy hrun ((s.transferInside_composer i).trans hin)).trans
        (congrArg (fun u => Host.Outcome.next (State.finish u)) (s.transferEnds_composer i))
      refine ⟨fun place hnext => ?_, fun hnext => ?_⟩
      · rw [hexec, hwho, Composer.transferEnd_goesOn hj hf hat _ hnext]
        rfl
      · rw [hexec, hwho, Composer.transferEnd_completes hj hf hat _ hnext]
        rfl
  · intro put
    rw [Composer.startFill_some hj hf hlt hb]
    rcases hb with ⟨rfl, -, -⟩ | ⟨rfl, -, -, -⟩ <;> rfl

end Sys2Proof.Machine
end


-- ==== Sys2Proof/Proofs/Queries.lean ====
section
/-! PROOF. The queries: their answers, and the order in which QUERY PAGE returns the versions of a page (chapter 10). -/

namespace Sys2Proof.Machine

/-! ### The versions of a page (R3) -/

theorem insertVersion_perm (r : PageRecord) (l : List PageRecord) : (insertVersion r l).Perm (r :: l) := by
  induction l with
  | nil => exact .refl _
  | cons q l ih =>
    unfold insertVersion
    split
    · exact .refl _
    · exact (ih.cons q).trans (.swap r q l)

/-- A record inserted in ascending version leaves the order ascending. -/
theorem insertVersion_ascending {r : PageRecord} {l : List PageRecord} (h : l.Pairwise fun a b => a.version ≤ b.version) :
    (insertVersion r l).Pairwise fun a b => a.version ≤ b.version := by
  induction l with
  | nil => exact List.pairwise_singleton _ _
  | cons q l ih =>
    obtain ⟨hq, hl⟩ := List.pairwise_cons.mp h
    unfold insertVersion
    split
    · rename_i hlt
      exact h.cons fun a ha => (List.mem_cons.mp ha).elim (fun e => e ▸ Nat.le_of_lt hlt)
        fun ha => Nat.le_trans (Nat.le_of_lt hlt) (hq a ha)
    · rename_i hle
      exact (ih hl).cons fun a ha => (List.mem_cons.mp ((insertVersion_perm r l).mem_iff.mp ha)).elim
        (fun e => e ▸ Nat.le_of_not_lt hle) (hq a)

theorem sorted_versions (l : List PageRecord) :
    (l.foldr insertVersion []).Perm l ∧ (l.foldr insertVersion []).Pairwise fun a b => a.version ≤ b.version := by
  induction l with
  | nil => exact ⟨.refl _, .nil⟩
  | cons r l ih => exact ⟨(insertVersion_perm r _).trans (ih.1.cons r), insertVersion_ascending ih.2⟩

theorem Store.mem_matching (t : Store) (k : PageKey) (v : Nat) (r : PageRecord) :
    r ∈ t.matching k v ↔ r ∈ t.directory ∧ r.key = k ∧ (v = 0 ∨ r.version = v) := by
  rw [Store.matching, (sorted_versions _).1.mem_iff, List.mem_filter]
  simp

/-! ### The answers (R194) -/

theorem State.noPlate_iff (s : State) (p : PlateId) : s.noPlate p = true ↔
    (∀ b ∈ s.plates.builds, b.plate ≠ p) ∧ ∀ it ∈ s.line.items, it.plate ≠ p := by
  simp [State.noPlate]

/-- A query is answered with its code and result; nothing else changes. -/
theorem query_ready {t : TaggedRequest} {f : State → Code × List Byte} {s : State} {r : Code × List Byte}
    (h : Ready s t) (hf : f s = r) : request t (fun u => answered (f u) u) s = .next (s.answering t r.1 r.2) := by
  rw [request_ready h, ← hf]
  rfl

theorem State.queryPage_eq (s : State) (k : PageKey) (v : Nat) : s.queryPage k v =
    if keyOk k = false then (.range, [])
    else if s.store.matching k v = [] then (.notFound, [])
    else (.ok, listOf s.pageBytes (s.store.matching k v)) := by
  unfold State.queryPage
  cases keyOk k with
  | false => rfl
  | true => cases s.store.matching k v <;> rfl

theorem State.queryPlate_eq (s : State) (p : PlateId) : s.queryPlate p =
    if ¬ (p.line ≤ 7 ∧ p.unit ≤ 11 ∧ p.face ≤ 1 ∧ p.across ≤ 3) then (.range, [])
    else if (∀ e ∈ s.plates.map, e.id ≠ p) ∧ (∀ b ∈ s.plates.builds, b.plate ≠ p) ∧
        (∀ it ∈ s.line.items, it.plate ≠ p) then (.notFound, [])
    else (.ok, optEntry (s.entry p) ++ optField 1 (placeOf p s.plates.pendingList) ++ s.currentBytes p ++
      s.retiredBytes p) := by
  unfold State.queryPlate
  simp only [Bool.not_eq_true', ← Bool.not_eq_true, plateOk_iff, Bool.and_eq_true, State.entry_isNone, State.noPlate_iff]

theorem State.queryImager_eq (s : State) (n : Nat) : s.queryImager n =
    if n = 0 then (.ok, be 1 (s.sched.stock.get .a).size ++ be 1 (s.sched.stock.get .a).count ++ s.heldBytes .a ++
      (s.chan.get .a).composer.bytes ++ s.sequencerBytes .a)
    else if n = 1 then (.ok, be 1 (s.sched.stock.get .b).size ++ be 1 (s.sched.stock.get .b).count ++ s.heldBytes .b ++
      (s.chan.get .b).composer.bytes ++ s.sequencerBytes .b)
    else (.range, []) := by
  match n with
  | 0 => rfl
  | 1 => rfl
  | n + 2 => rfl

theorem Link.requestCount_eq (l : Link) :
    l.requestCount = if l.requests = [] then 1 else l.requests.length := by
  unfold Link.requestCount
  cases l.requests with
  | nil => rfl
  | cons q qs => exact Nat.max_eq_right (Nat.succ_le_succ (Nat.zero_le _))

/-- An answer chosen by a condition. -/
theorem answered_ite {p : Prop} [Decidable p] {t : TaggedRequest} {s : State} {a b : Code × List Byte} {u w : State}
    (ha : s.answering t a.1 a.2 = u) (hb : s.answering t b.1 b.2 = w) :
    s.answering t (if p then a else b).1 (if p then a else b).2 = if p then u else w := by
  split
  · exact ha
  · exact hb

/-- Settles O60: every query answers by `query_ready`; the records of QUERY PAGE by `sorted_versions`. -/
theorem queriesChangeNothing : Obligations.QueriesChangeNothing := by
  intro tag v n k p s page plate imager
  refine ⟨fun h => ⟨s.store.matching k v, s.store.mem_matching k v, (sorted_versions _).2, ?_⟩, fun h => ?_, fun h => ?_,
    fun h => query_ready h rfl, fun h => ?_⟩
  · refine (query_ready h (s.queryPage_eq k v)).trans (congrArg _ ?_)
    exact answered_ite rfl (answered_ite rfl rfl)
  · refine (query_ready h (s.queryPlate_eq p)).trans (congrArg _ ?_)
    exact answered_ite rfl (answered_ite rfl rfl)
  · refine (query_ready h (s.queryImager_eq n)).trans (congrArg _ ?_)
    exact answered_ite rfl (answered_ite rfl rfl)
  · rw [← Link.requestCount_eq]
    exact query_ready (f := State.queryStore) h rfl

end Sys2Proof.Machine
end


-- ==== Sys2Proof/Proofs/Restart.lean ====
section
/-! PROOF. RESTART block by block: the port, the pages, the imagers, the line (chapter 10, R198). -/

namespace Sys2Proof.Machine

/-! ### The port (R6) -/

/-- The port of which every requester's work has been abandoned. -/
def Port.abandoned (p : Port) : Port :=
  { busy := p.busy.map fun x => { x with discarded := true },
    waitReceive := false, waitA := false, waitB := false, last := p.last }

theorem Port.withdraw_all (p : Port) : ((p.withdraw .receive).withdraw .a).withdraw .b = p.abandoned := by
  obtain ⟨busy, receive, a, b, last⟩ := p
  cases busy with
  | none => rfl
  | some t =>
    obtain ⟨r, d⟩ := t
    cases r <;> rfl

theorem Port.withdraw_abandoned (p : Port) (r : Requester) : p.abandoned.withdraw r = p.abandoned := by
  obtain ⟨busy, receive, a, b, last⟩ := p
  cases busy with
  | none => cases r <;> rfl
  | some t =>
    obtain ⟨q, d⟩ := t
    cases r <;> cases q <;> rfl

/-! ### The pages (R25) -/

/-- The drops of several records, the writer free: their cells and heights come back in order. -/
theorem State.discardAll_eq (l : List PageRecord) (s : State) (hw : s.rx.writer = none) :
    ∃ cs, s.discardAll l = { s with
      rx := { contexts := cs, writer := none },
      store := { s.store with
        directory := s.store.directory.filter fun q => l.all fun r => !q.isFor r.key r.version,
        idleCells := s.store.idleCells ++ l.flatMap fun r => r.chain,
        freeCells := s.store.freeCells + (l.map fun r => r.height).sum } } := by
  induction l generalizing s with
  | nil =>
    refine ⟨s.rx.contexts, ?_⟩
    simp only [State.discardAll, List.all_nil, List.filter_true, List.flatMap_nil, List.append_nil, List.map_nil,
      List.sum_nil, Nat.add_zero, ← hw]
  | cons r l ih =>
    have hdiscard : ∃ cs, s.discardRecord r = { s with
        rx := { contexts := cs, writer := none }, store := s.store.giveBack r } := by
      unfold State.discardRecord State.abandonWrite
      simp only [hw]
      cases r.stream with
      | none => exact ⟨s.rx.contexts, by simp only [← hw]⟩
      | some n => exact ⟨s.rx.contexts.set n {}, by simp only [State.setContext, hw]⟩
    obtain ⟨cs, hcs⟩ := hdiscard
    obtain ⟨cs', hcs'⟩ := ih (s.discardRecord r) (by rw [hcs])
    refine ⟨cs', ?_⟩
    rw [State.discardAll, hcs', hcs]
    simp only [Store.giveBack, List.filter_filter, List.all_cons, List.flatMap_cons, List.append_assoc, List.map_cons,
      List.sum_cons, Nat.add_assoc, Bool.and_comm]

/-- The freeing condition evaluated for several records that stand in a directory of distinct ones, no notice being
outstanding. -/
theorem Store.evalAll_eq (l : List PageRecord) (t : Store) (hn : t.notices = []) (hd : DistinctRecords t.directory)
    (hl : DistinctRecords l) (hmem : ∀ r ∈ l, r ∈ t.directory) :
    t.evalAll l = { t with
      directory := t.directory.filter fun q => l.all fun r => !(r.freeable && q.isFor r.key r.version),
      idleCells := t.idleCells ++ (l.filter PageRecord.freeable).flatMap fun r => r.chain,
      freeCells := t.freeCells + ((l.filter PageRecord.freeable).map fun r => r.height).sum } := by
  induction l generalizing t with
  | nil =>
    simp only [Store.evalAll, List.all_nil, List.filter_true, List.filter_nil, List.flatMap_nil, List.append_nil,
      List.map_nil, List.sum_nil, Nat.add_zero]
  | cons r l ih =>
    obtain ⟨hr, hl⟩ := List.pairwise_cons.mp hl
    have hfind : t.find r.key r.version = some r := DistinctRecords.find hd (hmem r List.mem_cons_self)
    have hdefer : t.deferred r.key r.version = false := by simp [Store.deferred, hn]
    have heval : t.evalFree r.key r.version = if r.freeable then t.giveBack r else t := by
      rw [Store.evalFree, hfind]
      simp only [hdefer, Bool.not_false, Bool.and_true]
    rw [Store.evalAll, heval]
    cases hf : r.freeable with
    | true =>
      rw [if_pos rfl, ih (t.giveBack r) hn (List.Pairwise.filter _ hd) hl fun q hq => ?_]
      · simp only [Store.giveBack, List.filter_filter, List.all_cons, hf, Bool.true_and, List.filter_cons_of_pos,
          List.flatMap_cons, List.append_assoc, List.map_cons, List.sum_cons, Nat.add_assoc, Bool.and_comm]
      · refine List.mem_filter.mpr ⟨hmem q (List.mem_cons_of_mem _ hq), ?_⟩
        rw [Bool.not_eq_true', ← Bool.not_eq_true, PageRecord.isFor_iff]
        exact fun h => hr q hq ⟨h.1.symm, h.2.symm⟩
    | false =>
      rw [if_neg Bool.false_ne_true, ih _ hn hd hl fun q hq => hmem q (List.mem_cons_of_mem _ hq)]
      simp only [List.all_cons, hf, Bool.false_and, Bool.not_false, Bool.true_and, Bool.false_eq_true, not_false_eq_true,
        List.filter_cons_of_neg]

/-- In a directory of distinct records, those for which some condition is asked are those of which it holds. -/
theorem DistinctRecords.filter_all {l : List PageRecord} (h : DistinctRecords l) (p : PageRecord → Bool) :
    (l.filter fun q => l.all fun r => !(p r && q.isFor r.key r.version)) = l.filter fun q => !p q := by
  refine List.filter_congr fun q hq => ?_
  rw [Bool.eq_iff_iff, List.all_eq_true]
  constructor
  · intro hall
    have := hall q hq
    simpa [PageRecord.isFor] using this
  · intro hp r hr
    cases hfor : q.isFor r.key r.version with
    | false => simp
    | true =>
      obtain ⟨hk, hv⟩ := PageRecord.isFor_iff.mp hfor
      rw [← h.eq_of_same hq hr hk hv]
      simpa using hp

/-- A record that RESTART frees once its count is 0 (R22, R25). -/
def PageRecord.unwanted (r : PageRecord) : Bool :=
  decide (r.state = .superseded ∨ (r.state = .current ∧ r.retain = false))

/-- A record with nothing bound to it (R25). -/
def PageRecord.unbound (r : PageRecord) : PageRecord := { r with refs := 0 }

theorem PageRecord.freeable_unbound (r : PageRecord) : r.unbound.freeable = r.unwanted := by
  show (decide ((0 : Nat) = 0) && (decide (r.state = .superseded) || (decide (r.state = .current) && !r.retain))) = _
  simp [PageRecord.unwanted]

/-- The records that are not being received, with nothing bound to them, lose the unwanted ones. -/
theorem unwanted_of_kept (l : List PageRecord) :
    ((l.filter fun r => !decide (r.state = .receiving)).filter PageRecord.unwanted) = l.filter PageRecord.unwanted := by
  rw [List.filter_filter]
  refine List.filter_congr fun r _ => ?_
  cases h : r.state <;> simp [PageRecord.unwanted, h]

/-- The records that RESTART gives back, in the order in which their cells come back (R25). -/
def Store.gone (t : Store) : List PageRecord :=
  (t.directory.filter fun r => decide (r.state = .receiving)) ++ t.directory.filter PageRecord.unwanted

/-- RESTART's action on pages (R25). -/
theorem State.restartPages_eq (s : State) (hd : DirectoryDistinct s) :
    s.restartPages =
      { s with
        rx := { contexts := List.replicate 8 ⟨.idle, none, 0, none⟩, writer := none },
        store := { s.store with
          directory := (s.store.directory.filter fun r => !decide (r.state = .receiving) && !r.unwanted).map
            PageRecord.unbound,
          idleCells := s.store.idleCells ++ s.store.gone.flatMap fun r => r.chain,
          freeCells := s.store.freeCells + (s.store.gone.map fun r => r.height).sum,
          notices := [], port := s.store.port.abandoned } } := by
  let u : State := { s with
    rx := { s.rx with writer := none }, store := { s.store with port := s.store.port.abandoned } }
  have hports : State.withdrawPort .b (State.withdrawPort .a
      (State.withdrawPort .receive { s with rx := { s.rx with writer := none } })) = u := by
    simp only [State.withdrawPort, Port.withdraw_all, u]
  let kept := s.store.directory.filter fun r => !decide (r.state = .receiving)
  have hkept : (u.store.directory.filter fun q =>
      (u.store.directory.filter fun r => decide (r.state = .receiving)).all fun r => !q.isFor r.key r.version) = kept := by
    simp only [List.all_filter, ← Bool.not_and]
    exact DistinctRecords.filter_all hd fun r => decide (r.state = .receiving)
  obtain ⟨cs, hdrop⟩ := State.discardAll_eq (u.store.directory.filter fun r => decide (r.state = .receiving)) u rfl
  rw [hkept] at hdrop
  have hdist : DistinctRecords (kept.map PageRecord.unbound) :=
    DistinctRecords.map (List.Pairwise.filter _ hd) (fun _ => rfl) fun _ => rfl
  have hfreed : (kept.map PageRecord.unbound).filter PageRecord.freeable =
      (s.store.directory.filter PageRecord.unwanted).map PageRecord.unbound := by
    rw [List.filter_map, ← unwanted_of_kept]
    exact congrArg _ (List.filter_congr fun r _ => r.freeable_unbound)
  have hleft : ((kept.map PageRecord.unbound).filter fun q =>
      (kept.map PageRecord.unbound).all fun r => !(r.freeable && q.isFor r.key r.version)) =
      (s.store.directory.filter fun r => !decide (r.state = .receiving) && !r.unwanted).map PageRecord.unbound := by
    rw [hdist.filter_all, List.filter_map, List.filter_filter]
    refine congrArg _ (List.filter_congr fun r _ => ?_)
    rw [Function.comp, PageRecord.freeable_unbound, Bool.and_comm]
  have heval : ∀ t : Store, t.notices = [] → t.directory = kept.map PageRecord.unbound →
      t.evalAll (kept.map PageRecord.unbound) = { t with
        directory := (s.store.directory.filter fun r => !decide (r.state = .receiving) && !r.unwanted).map
          PageRecord.unbound,
        idleCells := t.idleCells ++ (s.store.directory.filter PageRecord.unwanted).flatMap fun r => r.chain,
        freeCells := t.freeCells + ((s.store.directory.filter PageRecord.unwanted).map fun r => r.height).sum } := by
    intro t hn ht
    rw [Store.evalAll_eq _ t hn (ht ▸ hdist) hdist fun r hr => ht ▸ hr, ht, hleft, hfreed, List.flatMap_map, List.map_map]
    rfl
  unfold State.restartPages
  dsimp only
  rw [hports, hdrop]
  dsimp only
  refine congrArg (fun t : Store => { s with
    rx := { contexts := List.replicate 8 ⟨.idle, none, 0, none⟩, writer := none }, store := t }) ?_
  refine (heval _ rfl rfl).trans ?_
  simp only [Store.gone, List.flatMap_append, List.append_assoc, List.map_append, List.sum_append, Nat.add_assoc]
  rfl

/-! ### The imagers (R130) -/

/-- RESTART finds the imager in a state that it leaves with a fault (R130). -/
def Channel.sent (c : Channel) : Bool := decide (c.seq.state ≠ .idle ∧ c.seq.state ≠ .fault)

/-- The fault record of RESTART, with the plate of the build held before it (R130, log 18). -/
def Channel.restartFault (c : Channel) (builds : List Build) (now : Nat) : FaultRecord :=
  { cause := .restartWithPlate, plate := heldPlate builds c.seq, left := c.seq.state, time := now }

/-- The channel after RESTART (R130). -/
def Channel.restarted (c : Channel) (builds : List Build) (now : Nat) : Channel :=
  if c.sent then { c with
    composer := c.composer.ended,
    out := { drumRun := false, load := false, eject := false, step := false, stepStart := c.out.stepStart },
    seq := { c.seq with
      state := .fault, build := none, loadDeadline := none, spinDeadline := none, revolution := none,
      emissionPending := false, stepDue := false, fault := some (c.restartFault builds now) } }
  else c

/-- The IMAGER condition of RESTART, on an emptied slot. -/
def Channel.restartSlot (c : Channel) (builds : List Build) (now : Nat) : Option Condition :=
  if c.sent then some ⟨.imager (c.restartFault builds now), 0, now, now⟩ else none

theorem State.restartImager_of_sent (i : Imager) (builds : List Build) (s : State) (h : (s.channel i).sent = true) :
    s.restartImager i builds = s.enterFault i .restartWithPlate (heldPlate builds (s.channel i).seq) := by
  unfold State.restartImager
  dsimp only
  cases hs : (s.channel i).seq.state <;> simp [Channel.sent, hs] at h ⊢

theorem State.restartImager_of_resting (i : Imager) (builds : List Build) (s : State) (h : (s.channel i).sent = false) :
    s.restartImager i builds = s := by
  unfold State.restartImager
  dsimp only
  cases hs : (s.channel i).seq.state <;> simp [Channel.sent, hs] at h ⊢

theorem State.enterFault_eq (i : Imager) (cause : FaultCause) (plate : Option (PlateId × Nat)) (s : State) :
    s.enterFault i cause plate =
      let c := s.chan.get i
      let f : FaultRecord := { cause := cause, plate := plate, left := c.seq.state, time := s.clock.time }
      { s with
        chan := s.chan.set i { c with
          composer := c.composer.ended,
          out := { drumRun := false, load := false, eject := false, step := false, stepStart := c.out.stepStart },
          seq := { c.seq with
            state := .fault, build := none, loadDeadline := none, spinDeadline := none, revolution := none,
            emissionPending := false, stepDue := false, fault := some f } },
        store := { s.store with port := s.store.port.withdraw (Requester.ofImager i) },
        reports := s.reports.raise (Source.imager i) (.imager f) s.clock.time } := by
  cases i <;> rfl

/-- RESTART's action on an imager whose requests for the port are withdrawn and whose condition is not pending. -/
theorem State.restartImager_eq (i : Imager) (builds : List Build) (s : State) {p : Port}
    (hp : s.store.port = p.abandoned) (hslot : s.reports.slots.get (Source.imager i) = none) :
    s.restartImager i builds = { s with
      chan := s.chan.set i ((s.chan.get i).restarted builds s.clock.time),
      reports := { s.reports with
        slots := s.reports.slots.set (Source.imager i) ((s.chan.get i).restartSlot builds s.clock.time) } } := by
  have hw : s.store.port.withdraw (Requester.ofImager i) = s.store.port := by rw [hp, Port.withdraw_abandoned]
  cases hsent : (s.channel i).sent with
  | true =>
    have hget : (s.chan.get i).sent = true := hsent
    rw [State.restartImager_of_sent i builds s hsent, Channel.restarted, if_pos hget, Channel.restartSlot, if_pos hget]
    rw [State.enterFault_eq, hw]
    simp only [Reports.raise, hslot]
    rfl
  | false =>
    have hget : (s.chan.get i).sent = false := hsent
    rw [State.restartImager_of_resting i builds s hsent, Channel.restarted, Channel.restartSlot, hget]
    have hset : s.reports.slots.set (Source.imager i) none = s.reports.slots := by
      cases i <;> exact hslot ▸ rfl
    have hchan : s.chan.set i (s.chan.get i) = s.chan := by cases i <;> rfl
    simp only [Bool.false_eq_true, if_false, hset, hchan]

/-! ### The line and its stations (R155) -/

theorem Punch.restarted_eq (p : Punch) : ({ p.releaseDie.toIdle with halted := false } : Punch) = { p with
    dies := match p.die with
      | some n => p.dies.set n false
      | none => p.dies
    state := .idle, item := none, pattern := none, nextDie := 0, die := none, start := none, deadline := none,
    halted := false } := by
  unfold Punch.releaseDie
  cases hd : p.die with
  | none => simp only [Punch.toIdle]
  | some n => rfl

theorem Bend.restarted_eq (b : Bend) : ({ b.release.toIdle with halted := false } : Bend) = { b with
    outLead := if b.bend = some .lead then false else b.outLead,
    outTail := if b.bend = some .tail then false else b.outTail,
    state := .idle, item := none, profile := none, bend := none, start := none, deadline := none, halted := false } := by
  unfold Bend.release
  cases hb : b.bend with
  | none => rfl
  | some k => cases k <;> rfl

theorem State.restartLine_eq (s : State) : s.restartLine = { s with
    line := { s.line with
      state := .stopped, items := [], halt := none, out := ⟨false, false, false, false, false, false⟩,
      merge := ⟨[], none, none, false⟩ },
    punch := { s.punch.releaseDie.toIdle with halted := false },
    bend := { s.bend.release.toIdle with halted := false },
    sorter := s.sorter.toIdle } := rfl

/-- Settles O59. -/
theorem restartEmptiesBlocks : Obligations.RestartEmptiesBlocks := by
  intro tag s t hready hd now receiving unwanted gone sent record channel slot
  have hplate : ∀ c : Channel, heldPlate s.plates.builds c.seq = (record c).plate := fun c => by
    simp only [heldPlate, record]
    cases c.seq.build with
    | none => rfl
    | some n =>
      dsimp only [Option.bind_some]
      cases s.plates.builds.find? fun b => decide (b.bid = n) <;> rfl
  have hrecord : ∀ c : Channel, c.restartFault s.plates.builds now = record c := fun c => by
    simp only [Channel.restartFault, hplate]
    rfl
  show request t applyRestart s = _
  rw [request_ready hready]
  refine congrArg (fun u => Host.Outcome.next (State.answering u t .ok [])) ?_
  have hchannel : ∀ c : Channel, c.restarted s.plates.builds now = channel c := fun c => by
    simp only [Channel.restarted, hrecord]
    rfl
  have hslot : ∀ c : Channel, c.restartSlot s.plates.builds now = slot c := fun c => by
    simp only [Channel.restartSlot, hrecord]
    rfl
  let emptied : State := { s with
    reports := { s.reports with events := [], slots := ⟨none, none, none, none, none, none, none⟩ },
    link := { s.link with holding := none } }
  have happly : (applyRestart s).state = State.restartLine (State.restartImager .b s.plates.builds
      (State.restartImager .a s.plates.builds { emptied.restartPages with
        plates := { emptied.restartPages.plates with builds := [], queue := [], pendingList := [] } })) := rfl
  have hpages := State.restartPages_eq emptied hd
  show (applyRestart s).state = _
  rw [happly, hpages, State.restartImager_eq .a _ _ (p := s.store.port) rfl rfl,
    State.restartImager_eq .b _ _ (p := s.store.port) rfl rfl, State.restartLine_eq]
  simp only [Punch.restarted_eq, Bend.restarted_eq, Pair.get, Pair.set, ← hchannel, ← hslot]
  rfl

end Sys2Proof.Machine
end


-- ==== Sys2Proof/Proofs/BandFrames.lean ====
section
/-! PROOF. The encoding of frames read back, and what becomes of a band frame (chapters 1 and 10). -/

namespace Sys2Proof.Machine

/-! ### Numbers in bytes (R186) -/

theorem length_be (w n : Nat) : (be w n).length = w := by
  induction w with
  | zero => rfl
  | succ w ih => rw [be, List.length_cons, ih]

/-- A number read back after the bytes that spell `a`. -/
theorem foldl_be (w n a : Nat) :
    (be w n).foldl (fun m b => m * 256 + b.toNat) a = a * 256 ^ w + n % 256 ^ w := by
  induction w generalizing a with
  | zero => simp [be, Nat.mod_one]
  | succ w ih =>
    have hsplit : n % 256 ^ (w + 1) = n % 256 ^ w + 256 ^ w * (n / 256 ^ w % 256) := by
      rw [Nat.pow_succ, Nat.mod_mul]
    rw [be, List.foldl_cons, ih, BitVec.toNat_ofNat, hsplit, Nat.pow_succ]
    ring

theorem natOfBytes_be (w n : Nat) : natOfBytes (be w n) = n % 256 ^ w := by
  rw [natOfBytes, foldl_be, Nat.zero_mul, Nat.zero_add]

/-- A field of a frame is the number written there. -/
theorem field_be (before rest : List Byte) {off w n : Nat} (hoff : before.length = off) (hn : n < 256 ^ w) :
    field (before ++ (be w n ++ rest)) off w = n := by
  rw [field, List.drop_left' hoff, List.take_left' (length_be w n), natOfBytes_be, Nat.mod_eq_of_lt hn]

/-! ### Frames (R186, R188) -/

section
variable (kind tag : Nat) (payload : List Byte)

/-- The bytes of a frame that its check covers. -/
def frameBody : List Byte := be 1 kind ++ be 1 tag ++ be 3 payload.length ++ payload

theorem frameBytes_eq : frameBytes kind tag payload =
    frameBody kind tag payload ++ checkBytes (frameBody kind tag payload) := rfl

theorem length_checkBytes (bs : List Byte) : (checkBytes bs).length = 4 := by
  rw [checkBytes, List.length_reverse, length_be]

theorem length_frameBody : (frameBody kind tag payload).length = 5 + payload.length := by
  simp only [frameBody, List.length_append, length_be]

theorem length_frameBytes : (frameBytes kind tag payload).length = 9 + payload.length := by
  rw [frameBytes_eq, List.length_append, length_frameBody, length_checkBytes]
  omega

theorem frame_kind (h : kind < 256) : field (frameBytes kind tag payload) 0 1 = kind := by
  simp only [frameBytes_eq, frameBody, List.append_assoc]
  exact field_be [] _ rfl h

theorem frame_tag (h : tag < 256) : field (frameBytes kind tag payload) 1 1 = tag := by
  simp only [frameBytes_eq, frameBody, List.append_assoc]
  exact field_be (be 1 kind) _ (length_be 1 kind) h

theorem frame_headerLength (h : payload.length < 16777216) :
    headerLength (frameBytes kind tag payload) = payload.length := by
  have hframe : frameBytes kind tag payload = (be 1 kind ++ be 1 tag) ++
      (be 3 payload.length ++ (payload ++ checkBytes (frameBody kind tag payload))) := by
    simp only [frameBytes_eq, frameBody, List.append_assoc]
  rw [headerLength, hframe]
  exact field_be _ _ (by rw [List.length_append, length_be, length_be]) h

theorem frame_payload : framePayload (frameBytes kind tag payload) = payload := by
  have hframe : frameBytes kind tag payload = (be 1 kind ++ be 1 tag ++ be 3 payload.length) ++
      (payload ++ checkBytes (frameBody kind tag payload)) := by
    simp only [frameBytes_eq, frameBody, List.append_assoc]
  rw [framePayload, length_frameBytes, hframe, List.drop_left' (by simp only [List.length_append, length_be])]
  exact List.take_left' (by omega)

theorem frame_goodCheck : goodCheck (frameBytes kind tag payload) = true := by
  have hlen : (frameBytes kind tag payload).length - 4 = (frameBody kind tag payload).length := by
    rw [length_frameBytes, length_frameBody]
    omega
  rw [goodCheck, hlen, frameBytes_eq, List.drop_left, List.take_left]
  exact decide_eq_true rfl

end

/-- The band index is read back from the payload (Table 10.3). -/
theorem BandFrame.index_be (tag : Nat) {index : Nat} (data : List Byte) (h : index < 65536) :
    BandFrame.index ⟨tag, be 2 index ++ data⟩ = index := by
  show natOfBytes ((be 2 index ++ data).take 2) = index
  rw [List.take_left' (length_be 2 index), natOfBytes_be]
  exact Nat.mod_eq_of_lt h

/-- A band frame with a good check reaches the holding place or the Receive Context Unit (R188, R189). -/
theorem State.frameArrives_band (tag index : Nat) (data : List Byte) (s : State) (ht : tag < 256)
    (hd : data.length < 16777214) : s.frameArrives (frameBytes 1 tag (be 2 index ++ data)) =
      s.bandArrives ⟨tag, be 2 index ++ data⟩ := by
  have hlen : (be 2 index ++ data).length = 2 + data.length := by rw [List.length_append, length_be]
  have hheader := frame_headerLength 1 tag (be 2 index ++ data) (by omega)
  have hgood : isBadFrame (frameBytes 1 tag (be 2 index ++ data)) = false := by
    rw [isBadFrame, length_frameBytes, hheader, hlen, Bool.or_eq_false_iff, Bool.or_eq_false_iff, Bool.and_eq_false_iff]
    exact ⟨⟨decide_eq_false (by omega), decide_eq_false (by omega)⟩, .inr (decide_eq_false (by omega))⟩
  rw [State.frameArrives, hgood, frame_goodCheck, frame_kind 1 tag _ (by decide), frame_tag 1 tag _ ht, frame_payload]
  rfl

/-- Settles O13: the frame is read back (`State.frameArrives_band`), and the Receive Context Unit judges it in the order of
R11 to R13. -/
theorem bandFrameArrives : Obligations.BandFrameArrives := by
  intro tag index data s ht hi hd f link judged
  have hindex : f.index = index := BandFrame.index_be tag data hi
  have hlink : ∀ cause (u : State), u.raise .link (f.link cause u.now) = link cause u := fun cause u => by
    simp only [BandFrame.link, hindex]
    rfl
  have hdata : f.payload.drop 2 = data := List.drop_left' (length_be 2 index)
  have hjudged : ∀ u : State, u.takeBand f = judged u := fun u => by
    unfold State.takeBand
    dsimp only [judged]
    cases hrec : (u.context tag).record.bind fun kv => u.store.find kv.1 kv.2 with
    | none =>
      have hrec' : ((u.rx.contexts.getD tag ⟨.idle, none, 0, none⟩).record.bind fun kv => u.store.directory.find? fun r =>
        decide (r.key = kv.1) && decide (r.version = kv.2)) = none := hrec
      simp only [hrec', hlink]
    | some r =>
      have hrec' : ((u.rx.contexts.getD tag ⟨.idle, none, 0, none⟩).record.bind fun kv => u.store.directory.find? fun r =>
        decide (r.key = kv.1) && decide (r.version = kv.2)) = some r := hrec
      have hlen : f.payload.length ≠ 2 + r.width * 2048 ↔ data.length ≠ r.width * 2048 := by
        rw [List.length_append, length_be]
        omega
      simp only [hrec', hlink, hindex, State.dropRecord_eq]
      refine ite_congr rfl (fun _ => rfl) fun _ => ite_congr rfl (fun _ => rfl) fun hpast =>
        ite_congr rfl (fun _ => rfl) fun hnext => ite_congr (propext hlen) (fun _ => rfl) fun _ => ?_
      have hband : (u.context f.tag).nextBand = index :=
        Nat.le_antisymm (Nat.le_of_not_lt hpast) (Nat.le_of_not_lt fun h => hnext (.inl h))
      simp only [State.acceptBand, Store.modify, PageRecord.isFor_iff, hband, hdata]
      rfl
  refine ⟨fun hrun => ?_, fun hheld hfree => ?_, fun h => ?_⟩
  · have hframe : exec (.downstreamFrame (frameBytes 1 tag (be 2 index ++ data))) s = .next (s.bandArrives f).finish :=
      (taken_running _ s hrun).trans (by rw [State.frameArrives_band tag index data s ht hd])
    rw [hframe]
    unfold State.bandArrives
    cases hh : s.link.holding with
    | some g => simp only [hlink]
    | none =>
      cases hw : s.rx.writer with
      | some j => rfl
      | none => simp only [hjudged]
  · unfold State.passHeld
    rw [hheld, hfree]
    exact hjudged _
  · unfold State.passHeld
    rcases h with h | h
    · rw [h]
      cases s.rx.writer <;> rfl
    · cases hw : s.rx.writer with
      | none => exact absurd hw h
      | some j => rfl

end Sys2Proof.Machine
end


-- ==== Sys2Proof/Proofs/MapRequests.lean ====
section
/-! PROOF. The requests of the Plate Map and of its plates: their refusals in order, and what an accepted one leaves
(chapter 2). -/

namespace Sys2Proof.Machine

/-! ### Refusals in order (R191) -/

/-- The state in which the request `t` has been answered as its owner says. -/
def Answer.answering (a : Answer) (t : TaggedRequest) : State := a.state.answering t a.code a.result

theorem request_answers {t : TaggedRequest} {f : State → Answer} {s : State} (h : Ready s t) :
    request t f s = .next ((f s).answering t) := request_ready h

section
variable {p q : Prop} [Decidable p] [Decidable q] {t : TaggedRequest} {u w : State}

/-- An answer chosen by a condition that the rule words as `q`. -/
theorem Answer.answering_ite {a b : Answer} (hpq : p ↔ q) (ha : a.answering t = u) (hb : ¬ q → b.answering t = w) :
    (if p then a else b).answering t = if q then u else w := by
  by_cases h : q
  · rw [if_pos (hpq.mpr h), if_pos h, ha]
  · rw [if_neg (mt hpq.mp h), if_neg h, hb h]

/-- A list of refusals, taken in order before the answer `a`, whose first has the condition `q`. -/
theorem Answer.refused_ite {s : State} {a : Answer} {c : Code} {o : Option Code} (hpq : p ↔ q)
    (hc : s.answering t c [] = u) (ho : ¬ q → (o.elim a fun c => refuse c s).answering t = w) :
    ((if p then some c else o).elim a fun c => refuse c s).answering t = if q then u else w := by
  rw [apply_ite fun o : Option Code => o.elim a fun c => refuse c s]
  exact Answer.answering_ite hpq hc ho

end

theorem plateBad_iff (p : PlateId) :
    (!plateOk p) = true ↔ ¬ (p.line ≤ 7 ∧ p.unit ≤ 11 ∧ p.face ≤ 1 ∧ p.across ≤ 3) := by
  rw [Bool.not_eq_true', ← Bool.not_eq_true, plateOk_iff]

theorem State.inUse_iff (s : State) (p : PlateId) : s.inUse p = true ↔ ∃ b ∈ s.plates.builds, b.plate = p := by
  simp [State.inUse]

/-! ### SIZE LOAD (R27) -/

/-- Settles O23. -/
theorem sizeLoadDefinesCode : Obligations.SizeLoadDefinesCode := by
  intro tag code l x s t hready
  have hrange : (!(decide (code ≤ 3) && decide (32 ≤ l) && decide (l ≤ 65535) && decide (256 ≤ x) &&
      decide (x ≤ 65535))) = true ↔ ¬ (code ≤ 3 ∧ 32 ≤ l ∧ l ≤ 65535 ∧ 256 ≤ x ∧ x ≤ 65535) := by
    simp only [Bool.not_eq_true', ← Bool.not_eq_true, Bool.and_eq_true, decide_eq_true_eq, and_assoc]
  refine (request_answers hready).trans (congrArg _ ?_)
  rw [← ite_not]
  exact Answer.answering_ite hrange rfl fun _ => rfl

/-! ### MAP LOAD (R29, R30) -/

theorem affinityOf_isSome (n : Nat) : (affinityOf n).isSome = true ↔ n ≤ 2 := by
  match n with
  | 0 | 1 | 2 => simp [affinityOf]
  | n + 3 => exact iff_of_false Bool.false_ne_true (by omega)

theorem affinityOf_getD {n : Nat} (h : n ≤ 2) :
    (affinityOf n).getD .any = if n = 0 then .any else if n = 1 then .a else .b := by
  interval_cases n <;> rfl

theorem positionInRange_iff (q : PosArgs) :
    positionInRange q = true ↔ (q.rotation = 0 ∨ q.rotation = 1) ∧ (q.key.page = 0 ∨ keyOk q.key = true) := by
  rw [positionInRange, Bool.and_eq_true, flagOf_isSome, and_comm, positionKey]
  by_cases h : q.key.page = 0 <;> simp [h]

theorem positionInside_iff (z : Size) (q : PosArgs) :
    positionInside z q = true ↔ ¬ (q.key.page ≠ 0 ∧ (z.x ≤ q.x0 ∨ z.l ≤ q.y0)) := by
  rw [positionInside, positionKey]
  by_cases h : q.key.page = 0 <;> simp [h]

/-- The first condition of R30. -/
theorem mapRange_iff (p : PlateId) (size cls affinity : Nat) (ps : List PosArgs) :
    (!(plateOk p && decide (size ≤ 3) && decide (cls ≤ 3) && (affinityOf affinity).isSome &&
      (decide (ps.length = 1) || decide (ps.length = 2) || decide (ps.length = 4)) && ps.all positionInRange)) = true ↔
    ¬ (p.line ≤ 7 ∧ p.unit ≤ 11 ∧ p.face ≤ 1 ∧ p.across ≤ 3 ∧ size ≤ 3 ∧ cls ≤ 3 ∧ affinity ≤ 2 ∧
      (ps.length = 1 ∨ ps.length = 2 ∨ ps.length = 4) ∧
      ∀ q ∈ ps, (q.rotation = 0 ∨ q.rotation = 1) ∧ (q.key.page = 0 ∨ keyOk q.key = true)) := by
  simp only [Bool.not_eq_true', ← Bool.not_eq_true, Bool.and_eq_true, Bool.or_eq_true, plateOk_iff, affinityOf_isSome,
    List.all_eq_true, positionInRange_iff, decide_eq_true_eq, and_assoc, or_assoc]

/-- The second condition of R30, under the size of the code. -/
theorem mapOutside_iff (z : Size) (ps : List PosArgs) :
    (!ps.all (positionInside z)) = true ↔ ∃ q ∈ ps, q.key.page ≠ 0 ∧ (z.x ≤ q.x0 ∨ z.l ≤ q.y0) := by
  simp only [Bool.not_eq_true', ← Bool.not_eq_true, List.all_eq_true, positionInside_iff, not_forall, not_not,
    exists_prop]

theorem applyMapLoad_eq (p : PlateId) (size cls affinity : Nat) (ps : List PosArgs) (s : State) :
    applyMapLoad p size cls affinity ps s =
      (s.mapRefusal p size cls (affinityOf affinity) ps).elim
        (accept (State.needCheck p none { s with plates := { s.plates with
          map := putEntry
            { id := p, size := size, cls := cls, affinity := (affinityOf affinity).getD .any,
              hold := ((s.entry p).map MapEntry.hold).getD false, positions := ps.map positionOf, generation := 0 }
            s.plates.map } }))
        fun c => refuse c s := by
  unfold applyMapLoad
  cases s.mapRefusal p size cls (affinityOf affinity) ps <;> rfl

/-! #### The entry in its place (R26, R28) -/

theorem plateBefore_iff (p q : PlateId) : plateBefore p q = true ↔
    p.line < q.line ∨ (p.line = q.line ∧ (p.unit < q.unit ∨ (p.unit = q.unit ∧
      (p.face < q.face ∨ (p.face = q.face ∧ p.across < q.across))))) := by
  simp [plateBefore]

theorem plateBefore_irrefl (p : PlateId) : ¬ plateBefore p p = true := by
  rw [plateBefore_iff]
  omega

theorem plateBefore_trans {p q r : PlateId} (h : plateBefore p q = true) (h' : plateBefore q r = true) :
    plateBefore p r = true := by
  rw [plateBefore_iff] at *
  omega

/-- Plate id order is total (R26). -/
theorem plateBefore_total {p q : PlateId} (hne : p ≠ q) (h : ¬ plateBefore p q = true) : plateBefore q p = true := by
  obtain ⟨l, u, f, a⟩ := p
  obtain ⟨l', u', f', a'⟩ := q
  rw [ne_eq, PlateId.mk.injEq] at hne
  rw [plateBefore_iff] at *
  simp only at *
  omega

theorem mem_putEntry_subset {e f : MapEntry} {m : List MapEntry} (h : f ∈ putEntry e m) : f = e ∨ f ∈ m := by
  induction m with
  | nil => simpa [putEntry] using h
  | cons g m ih =>
    unfold putEntry at h
    split at h
    · exact (List.mem_cons.mp h).imp_right (List.mem_cons_of_mem _)
    · split at h
      · exact List.mem_cons.mp h
      · rcases List.mem_cons.mp h with rfl | h
        · exact .inr List.mem_cons_self
        · exact (ih h).imp_right (List.mem_cons_of_mem _)

/-- The map stays in plate id order (R26). -/
theorem putEntry_ordered (e : MapEntry) {m : List MapEntry} (h : m.Pairwise fun f g => plateBefore f.id g.id = true) :
    (putEntry e m).Pairwise fun f g => plateBefore f.id g.id = true := by
  induction m with
  | nil => exact List.pairwise_singleton _ e
  | cons f m ih =>
    obtain ⟨hf, hm⟩ := List.pairwise_cons.mp h
    unfold putEntry
    split
    · rename_i hsame
      exact List.pairwise_cons.mpr ⟨fun g hg => hsame ▸ hf g hg, hm⟩
    · rename_i hother
      split
      · rename_i hbefore
        refine List.pairwise_cons.mpr ⟨fun g hg => ?_, h⟩
        rcases List.mem_cons.mp hg with rfl | hg
        · exact hbefore
        · exact plateBefore_trans hbefore (hf g hg)
      · rename_i hnot
        refine List.pairwise_cons.mpr ⟨fun g hg => ?_, ih hm⟩
        rcases mem_putEntry_subset hg with rfl | hg
        · exact plateBefore_total hother hnot
        · exact hf g hg

/-- The entry written, and those of the other plate ids (R28). -/
theorem mem_putEntry {e : MapEntry} {m : List MapEntry} (h : m.Pairwise fun f g => plateBefore f.id g.id = true)
    (f : MapEntry) : f ∈ putEntry e m ↔ f = e ∨ (f ∈ m ∧ f.id ≠ e.id) := by
  have hafter : ∀ {p : PlateId} {l : List MapEntry}, (∀ g ∈ l, plateBefore p g.id = true) → f ∈ l → f.id ≠ p :=
    fun hl hf he => plateBefore_irrefl _ (he ▸ hl f hf)
  induction m with
  | nil => simp [putEntry]
  | cons g m ih =>
    obtain ⟨hg, hm⟩ := List.pairwise_cons.mp h
    unfold putEntry
    split
    · rename_i hsame
      have hrest : f ∈ m → f.id ≠ e.id := hafter (hsame ▸ hg)
      simp only [List.mem_cons]
      constructor
      · exact Or.imp_right fun hf => ⟨.inr hf, hrest hf⟩
      · rintro (rfl | ⟨rfl | hf, hne⟩)
        · exact .inl rfl
        · exact absurd hsame.symm hne
        · exact .inr hf
    · rename_i hother
      split
      · rename_i hbefore
        have hrest : f ∈ g :: m → f.id ≠ e.id := hafter fun k hk => by
          rcases List.mem_cons.mp hk with rfl | hk
          · exact hbefore
          · exact plateBefore_trans hbefore (hg k hk)
        rw [List.mem_cons]
        exact or_congr_right ⟨fun hf => ⟨hf, hrest hf⟩, And.left⟩
      · rw [List.mem_cons, List.mem_cons]
        refine (or_congr_right (ih hm)).trans ?_
        constructor
        · rintro (rfl | rfl | ⟨hf, hne⟩)
          · exact .inr ⟨.inl rfl, Ne.symm hother⟩
          · exact .inl rfl
          · exact .inr ⟨.inr hf, hne⟩
        · rintro (rfl | ⟨rfl | hf, hne⟩)
          · exact .inr (.inl rfl)
          · exact .inl rfl
          · exact .inr (.inr ⟨hf, hne⟩)

/-- Settles O24: the refusals of R30 in their order (`Answer.refused_ite`), and the place of the entry
(`putEntry_ordered`, `mem_putEntry`). -/
theorem mapLoadRefusedOrApplied : Obligations.MapLoadRefusedOrApplied := by
  refine ⟨fun tag p size cls affinity ps s => ?_, fun e m hm => ⟨putEntry_ordered e hm, mem_putEntry hm⟩⟩
  intro t key keys holding hready
  have hlimit : (keys.any fun k => decide (Config.maxEntriesPerKey < s.otherEntries p k + 1)) = true ↔
      ∃ k ∈ keys, 8 < holding k + 1 := by
    simp only [List.any_eq_true, decide_eq_true_eq]
    exact Iff.rfl
  have hfull : ((s.entry p).isNone && decide (Config.maxEntries ≤ s.plates.map.length)) = true ↔
      (∀ e ∈ s.plates.map, e.id ≠ p) ∧ 192 ≤ s.plates.map.length := by
    rw [Bool.and_eq_true, State.entry_isNone, decide_eq_true_eq]
    exact Iff.rfl
  have hdup : (!decide keys.Nodup) = true ↔ ¬ keys.Nodup := by rw [Bool.not_eq_true', decide_eq_false_iff_not]
  refine (request_answers hready).trans (congrArg _ ?_)
  rw [applyMapLoad_eq, State.mapRefusal]
  refine Answer.refused_ite (mapRange_iff p size cls affinity ps) rfl fun hrange => ?_
  have haffinity : affinity ≤ 2 := by
    obtain ⟨-, -, -, -, -, -, h, -⟩ := not_not.mp hrange
    exact h
  rw [State.sizeOf]
  cases s.plates.sizes.getD size none with
  | none => rfl
  | some z =>
    refine Answer.refused_ite (mapOutside_iff z ps) rfl fun _ => Answer.refused_ite hdup rfl fun _ =>
      Answer.refused_ite (s.inUse_iff p) rfl fun _ => Answer.refused_ite hlimit rfl fun _ =>
      Answer.refused_ite hfull rfl fun _ => ?_
    rw [affinityOf_getD haffinity, State.entry]
    cases s.plates.map.find? fun e => decide (e.id = p) <;> rfl

/-! ### MAP DELETE (R31) -/

/-- Settles O25. -/
theorem mapDeleteRefusedOrApplied : Obligations.MapDeleteRefusedOrApplied := by
  intro tag p s t hready
  refine (request_answers hready).trans (congrArg _ ?_)
  exact Answer.answering_ite (plateBad_iff p) rfl fun _ => Answer.answering_ite (s.entry_isNone p) rfl fun _ =>
    Answer.answering_ite (s.inUse_iff p) rfl fun _ => rfl

/-! ### PLATE CANCEL (R52, R53) -/

/-- Settles O28, along what the current plate is. -/
theorem plateCancelRetiresCurrentPlate : Obligations.PlateCancelRetiresCurrentPlate := by
  intro tag p s t hready
  have hexec : ∀ a, applyPlateCancel p s = a → exec (.plateCancel tag p) s = .next (a.answering t) := fun a ha =>
    (request_answers hready).trans (by rw [ha])
  refine ⟨fun hbad => hexec (refuse .range s) ?range, fun hok hb hi => hexec (refuse .notFound s) ?notFound,
    fun b hok hb hw => hexec (accept (s.removeBuild b)) ?waiting, fun b i hok hb ho hr hi => ?dispatched,
    fun it hok hb hi => hexec (accept (s.retireItem it.order .cancelled)) ?item⟩
  case range => simp [applyPlateCancel, hbad]
  case notFound => simp [applyPlateCancel, hok, hb, hi]
  case waiting => simp [applyPlateCancel, hok, hb, (BuildState.waits_iff b.state).mpr hw]
  case dispatched =>
    have hwaits : b.state.waits = false := by
      rw [← Bool.not_eq_true, BuildState.waits_iff]
      exact fun h => h.elim ho hr
    have happly : applyPlateCancel p s = accept (s.retireBuild b .cancelled) := by
      simp [applyPlateCancel, hok, hb, hwaits]
    rw [hexec _ happly, State.retireBuild, hi]
    rfl
  case item => simp [applyPlateCancel, hok, hb, hi]

/-! ### REPLATE (R54) -/

theorem State.replateAll_eq (l : List PlateId) (s : State) :
    s.replateAll l = l.foldl (fun u q => (u.clearImaged q).needCheck q none) s := by
  induction l generalizing s with
  | nil => rfl
  | cons p l ih => rw [State.replateAll, ih, List.foldl_cons]

/-- Settles O29: the forms of R54, and the plate ids one after another (`State.replateAll_eq`). -/
theorem replateClearsImagedVersions : Obligations.ReplateClearsImagedVersions := by
  intro tag form p s t again hready
  have hagain : ∀ l, (accept (s.replateAll l)).answering t = (again l).answering t .ok [] := fun l => by
    rw [State.replateAll_eq]
    rfl
  refine (request_answers hready).trans (congrArg _ ?_)
  match form with
  | 0 =>
    rw [if_pos rfl]
    exact Answer.answering_ite (plateBad_iff p) rfl fun _ => Answer.answering_ite (s.entry_isNone p) rfl fun _ =>
      hagain _
  | 1 =>
    rw [if_neg Nat.one_ne_zero, if_pos rfl]
    exact Answer.answering_ite Iff.rfl rfl fun _ => hagain _
  | n + 2 =>
    rw [if_neg (by omega), if_neg (by omega)]
    rfl

end Sys2Proof.Machine
end


-- ==== Sys2Proof/Proofs/ExposureEnds.lean ====
section
/-! PROOF. The end of an exposure, the retirement of the held build, and the load and spin-up deadlines (chapter 6). -/

namespace Sys2Proof.Machine

/-! ### Builds found again (R34) -/

theorem State.build_modifyBuild {s : State} {n : Nat} {b : Build} {f : Build → Build} (hf : ∀ e, (f e).bid = e.bid)
    (hb : s.build n = some b) : (s.modifyBuild n f).build n = some (f b) := by
  have hkeep : ∀ e : Build, (if e.bid = n then f e else e).bid = e.bid := fun e => by
    split
    · exact hf e
    · rfl
  have hfind : (s.plates.builds.find? fun e => decide (e.bid = n)) = some b := hb
  simp only [State.build, State.modifyBuild, List.find?_map, Function.comp_def, hkeep, hfind, Option.map_some]
  rw [if_pos (State.build_mem hb).2]

/-- A build inserted is not found under another number. -/
theorem find_insertBuild_other {c : Build} {n : Nat} (hne : c.bid ≠ n) (l : List Build) :
    ((insertBuild c l).find? fun e => decide (e.bid = n)) = l.find? fun e => decide (e.bid = n) := by
  have hc : decide (c.bid = n) = false := decide_eq_false hne
  induction l with
  | nil => simp only [insertBuild, List.find?_cons, hc]
  | cons d l ih =>
    unfold insertBuild
    split
    · rw [List.find?_cons, hc]
    · rw [List.find?_cons, List.find?_cons, ih]

/-- A build-need check creates a build on a free record alone, so that every build is found as before (R34). -/
theorem State.build_needCheck {s : State} {n : Nat} {b : Build} (hb : s.build n = some b) (p : PlateId)
    (w : Option (PageKey × Nat)) : (s.needCheck p w).build n = some b := by
  have hbuilds : ∀ t : State, t.plates.builds = s.plates.builds → t.build n = some b := fun t ht => by
    rw [State.build, ht]
    exact hb
  rcases s.needCheck_cases p w with heq | heq | ⟨-, heq⟩ | ⟨e, m, hm, -, -, heq⟩ <;> rw [heq]
  · exact hb
  · exact hbuilds _ (by simp)
  · exact hbuilds _ (by simp)
  · obtain ⟨c, rfl, hc⟩ := s.createBuild_builds e w m
    obtain ⟨hmem, rfl⟩ := State.build_mem hb
    have hne : c.bid ≠ b.bid := fun he => (Plates.freeRecord_some hm).2 b hmem he.symm
    show ((s.createBuild e w c.bid).plates.builds.find? _) = some b
    rw [hc, find_insertBuild_other hne]
    exact hb

/-! ### The end of an exposure (R124) -/

theorem EndKind.faulty_iff (k : EndKind) : k.faulty = true ↔ k ≠ .complete ∧ k ≠ .stopped := by
  cases k <;> simp [EndKind.faulty]

/-- The build of an exposure that ends (R49, R124 step 3). -/
theorem State.buildExits_eq {s : State} {n : Nat} {b : Build} (hb : s.build n = some b) (kind : EndKind) :
    let faulty : Prop := kind ≠ .complete ∧ kind ≠ .stopped ∧ b.cause = .none_
    let u := s.modifyBuild n fun e => { e with state := .exiting, cause := if faulty then .faulty else e.cause }
    s.buildExits n kind.faulty = (if faulty then u.needCheck b.plate none else u) ∧
      (s.buildExits n kind.faulty).build n =
        some { b with state := .exiting, cause := if faulty then .faulty else b.cause } := by
  intro faulty u
  have hiff : (kind.faulty = true ∧ b.cause = .none_) ↔ faulty := by rw [EndKind.faulty_iff, and_assoc]
  have hbuild : u.build n = some { b with state := .exiting, cause := if faulty then .faulty else b.cause } :=
    State.build_modifyBuild (f := fun e => { e with state := .exiting, cause := if faulty then .faulty else e.cause })
      (fun _ => rfl) hb
  have heq : s.buildExits n kind.faulty = if faulty then u.needCheck b.plate none else u := by
    simp only [State.buildExits, hb, hiff]
    by_cases h : faulty
    · simp only [u, if_pos h]
    · simp only [u, if_neg h]
  refine ⟨heq, ?_⟩
  rw [heq, apply_ite fun v : State => v.build n, State.build_needCheck hbuild, hbuild, ite_self]

/-- The first two steps of R124: DRUM_RUN released, the job ended. -/
theorem State.stopDrum_eq (i : Imager) (s : State) :
    (s.modifyOut i fun o => { o with drumRun := false }).endJob i = { s with
      chan := s.chan.set i { s.chan.get i with
        composer := (s.chan.get i).composer.ended, out := { (s.chan.get i).out with drumRun := false } },
      store := { s.store with port := s.store.port.withdraw (match i with
        | .a => .a
        | .b => .b) } } := by
  cases i <;> rfl

/-- The exposure of a build ends in the five steps of R124, `v` being the state after the third, `b` the build then and `r`
the report of the fifth. -/
theorem State.endExposure_eq {s v : State} {i : Imager} {n : Nat} {b : Build} {kind : EndKind}
    (hq : (s.channel i).seq.build = some n)
    (hv : ((s.modifyOut i fun o => { o with drumRun := false }).endJob i).buildExits n kind.faulty = v)
    (hb : v.build n = some b) {r : PlateExposed}
    (hr : exposedReport i kind (s.chan.get i) b s.clock.time = r) :
    let c := s.chan.get i
    s.endExposure i kind = { v with
      chan := v.chan.set i { v.chan.get i with seq := { c.seq with
        state := .exitWait, loadDeadline := none, spinDeadline := none, revolution := none, emissionPending := false,
        stepDue := false } },
      line := { v.line with merge := { v.line.merge with
        requests := v.line.merge.requests ++ [⟨i, v.classOfPlate b.plate⟩] } },
      reports := v.reports.offer (.plateExposed r) s.clock.time } := by
  intro c
  subst hr
  have hn : (s.channel i).seq.build.getD Config.maxBuilds = n := by rw [hq]; rfl
  have hclock : v.clock = s.clock := by simp [← hv]
  have hseq : (v.channel i).seq = c.seq := by
    have hchan : (v.channel i) = ((s.modifyOut i fun o => { o with drumRun := false }).endJob i).channel i := by
      simp [← hv, State.channel]
    rw [hchan, State.seq_endJob, State.seq_modifyOut]
    rfl
  have hbuild : ∀ f, (v.modifySeq i f).build n = some b := fun _ => hb
  unfold State.endExposure
  simp only [hn, hv, hbuild]
  simp only [State.modifySeq, hseq, State.offer, State.offerExit, State.now, State.setChannel_frame, hclock]
  rfl

theorem exposedReport_eq (i : Imager) (kind : EndKind) (c : Channel) (b : Build) (now : Nat) :
    exposedReport i kind c b now =
      { plate := b.plate, generation := b.generation, imager := i, kind := kind, cause := b.cause,
        count := match c.composer.job with
          | some j => j.n
          | none => 0
        written := c.seq.written, skipped := c.seq.skipped,
        clipped := match c.composer.job with
          | some j => j.clippedFlags
          | none => [],
        time := now } := by
  unfold exposedReport
  cases c.composer.job <;> rfl

/-! ### The retirement of the held build (R123) -/

theorem State.retireHeld_eq {i : Imager} {s : State} {x : ImagerState} {pending : Bool} :
    (s.chan.get i).seq.state = x → (s.chan.get i).seq.emissionPending = pending →
    let told : State := { s with
      chan := s.chan.set i { s.chan.get i with seq := { (s.chan.get i).seq with retired := true } } }
    s.retireHeld i = match x with
      | .spinup => told.endExposure i .stopped
      | .exposing => if pending then told else told.endExposure i .stopped
      | _ => told := by
  rintro rfl rfl
  unfold State.retireHeld
  simp only [State.channel_modifySeq]
  rfl

/-- Settles O41: the five steps (`State.endExposure_eq`) with the build as it leaves them (`State.buildExits_eq`); what
the retirement does, along the imager's state. -/
theorem exposureEnds : Obligations.ExposureEnds := by
  refine ⟨fun i kind bid b s => ?_, fun i s => ?_⟩
  · intro c hq hb faulty cause u v
    have hstop : ((s.modifyOut i fun o => { o with drumRun := false }).endJob i).build bid = some b := by
      rw [State.stopDrum_eq]
      exact hb
    obtain ⟨hexits, hfound⟩ := State.buildExits_eq hstop kind
    have hv : ((s.modifyOut i fun o => { o with drumRun := false }).endJob i).buildExits bid kind.faulty = v := by
      rw [hexits, State.stopDrum_eq]
      rfl
    rw [hv] at hfound
    exact State.endExposure_eq hq hv hfound (exposedReport_eq i kind c _ s.clock.time)
  · intro q told
    constructor
    · rintro (hspinup | ⟨hexposing, hpending⟩)
      · exact State.retireHeld_eq hspinup rfl
      · exact State.retireHeld_eq hexposing hpending
    · rintro (hloading | ⟨hexposing, hpending⟩ | hwaits)
      · exact State.retireHeld_eq hloading rfl
      · exact State.retireHeld_eq hexposing hpending
      · exact State.retireHeld_eq hwaits rfl

end Sys2Proof.Machine
end


-- ==== Sys2Proof/Proofs/ImagerFaults.lean ====
section
/-! PROOF. The load and spin-up deadlines: the fault of the imager and what becomes of its build (chapters 2 and 6). -/

namespace Sys2Proof.Machine

/-! ### The build of a faulted imager (R50, R58) -/

/-- The queue before the builds of its class (R58). -/
theorem State.rejoinQueue_eq (bid : Nat) (s : State) :
    s.rejoinQueue bid =
      let before := s.plates.queue.takeWhile fun n => decide (s.classOf n < s.classOf bid)
      { s with
        passOwed := true, plates := { s.plates with queue := before ++ bid :: s.plates.queue.drop before.length } } := by
  have hlt : (fun n => !decide (s.classOf bid ≤ s.classOf n)) = fun n => decide (s.classOf n < s.classOf bid) := by
    funext n
    rw [← decide_not]
    exact decide_eq_decide.mpr Nat.not_le
  rw [State.rejoinQueue, insertBefore_eq, hlt]

/-- A current build returns to READY and to the queue; a retired one is removed (R50, R58). -/
theorem State.giveUpBuild_eq {s : State} {n : Nat} {b : Build} (hb : s.build n = some b) :
    s.giveUpBuild n = if b.cause = .none_ then
      State.rejoinQueue n (s.modifyBuild n fun e =>
        { e with state := .ready, imager := none, press := none, fan := none, size := none })
      else s.removeBuild b := by
  simp only [State.giveUpBuild, hb]

theorem heldPlate_eq {builds : List Build} {q : Sequencer} {n : Nat} {b : Build} (hq : q.build = some n)
    (hb : (builds.find? fun e => decide (e.bid = n)) = some b) : heldPlate builds q = some (b.plate, b.generation) := by
  rw [heldPlate, hq, Option.bind_some, hb]
  rfl

theorem State.faultAndGiveUp_eq {s : State} {i : Imager} {n : Nat} {b : Build} (cause : FaultCause)
    (hq : (s.channel i).seq.build = some n) (hb : s.build n = some b) :
    s.faultAndGiveUp i cause = (s.enterFault i cause (some (b.plate, b.generation))).giveUpBuild n := by
  unfold State.faultAndGiveUp
  simp only [heldPlate_eq hq hb, hq]

/-! ### The deadlines (R115, R117) -/

theorem State.loadExpires_eq {s : State} {i : Imager} {d : Nat} (hstate : (s.channel i).seq.state = .loading)
    (hd : (s.channel i).seq.loadDeadline = some d) (hdue : reached s.clock.time d) :
    s.loadExpires i = s.faultAndGiveUp i .loadTimeout :=
  if_pos ⟨hstate, hd ▸ (dueAt_some _ d).mpr hdue⟩

theorem State.spinupExpires_eq {s : State} {i : Imager} {d : Nat} (hstate : (s.channel i).seq.state = .spinup)
    (hd : (s.channel i).seq.spinDeadline = some d) (hdue : reached s.clock.time d) :
    s.spinupExpires i = s.faultAndGiveUp i .spinupTimeout :=
  if_pos ⟨hstate, hd ▸ (dueAt_some _ d).mpr hdue⟩

/-- Settles O36: the fault (`State.enterFault_eq`), then the build's return or its removal (`State.giveUpBuild_eq`). -/
theorem loadAndSpinupTimeouts : Obligations.LoadAndSpinupTimeouts := by
  intro i bid b d s hrun c hq hb hdue outcome
  have houtcome : ∀ cause, s.faultAndGiveUp i cause = outcome cause := fun cause => by
    have hbuild : (s.enterFault i cause (some (b.plate, b.generation))).build bid = some b := by
      rw [State.enterFault_eq]
      exact hb
    rw [State.faultAndGiveUp_eq cause hq hb, State.giveUpBuild_eq hbuild, State.enterFault_eq, State.rejoinQueue_eq]
    rfl
  refine ⟨fun hstate hd => ?_, fun hstate hd => ?_⟩
  · show taken (State.loadExpires i) s = _
    rw [taken_running _ _ hrun, State.loadExpires_eq hstate hd hdue, houtcome]
  · show taken (State.spinupExpires i) s = _
    rw [taken_running _ _ hrun, State.spinupExpires_eq hstate hd hdue, houtcome]

end Sys2Proof.Machine
end


-- ==== Sys2Proof/Proofs/StrokeTimeouts.lean ====
section
/-! PROOF. The die and the bend deadline: the stroke ends, the item is retired, the line halts, the station finishes
(chapter 8). -/

namespace Sys2Proof.Machine

/-! ### The item and the line (R147, R149) -/

theorem State.retireForReplacement_eq {s : State} {order : Nat} {it : Item} (hit : s.item order = some it)
    (cause : Cause) :
    s.retireForReplacement order cause =
      if it.cause = .none_ then (s.retireItem order cause).needCheck it.plate none else s := by
  simp only [State.retireForReplacement, hit]

/-- A halt tells the stations of itself and changes nothing else in them (R147, R148). -/
theorem State.haltLine_stations (cause : HaltCause) (order sensor : Option Nat) (exit : Option ExitName) (s : State) :
    ∃ p b, (s.haltLine cause order sensor exit).punch = { s.punch with halted := p } ∧
      (s.haltLine cause order sensor exit).bend = { s.bend with halted := b } := by
  unfold State.haltLine
  dsimp only
  split
  · exact ⟨true, true, rfl, rfl⟩
  · split <;> exact ⟨s.punch.halted, s.bend.halted, rfl, rfl⟩
  · exact ⟨s.punch.halted, s.bend.halted, rfl, rfl⟩

/-- What the failure of a stroke does to the item and the line: the item is retired for replacement, then the halt cause
is given with the item and the sensor (R164, R169). -/
def State.strokeFails (order : Nat) (cause : Cause) (halt : HaltCause) (sensor : Nat) (s : State) : State :=
  (s.retireForReplacement order cause).haltLine halt (some order) (some sensor) none

theorem State.strokeFails_stations (order : Nat) (cause : Cause) (halt : HaltCause) (sensor : Nat) (s : State) :
    ∃ p b, (s.strokeFails order cause halt sensor).punch = { s.punch with halted := p } ∧
      (s.strokeFails order cause halt sensor).bend = { s.bend with halted := b } := by
  obtain ⟨p, b, hp, hb⟩ := State.haltLine_stations halt (some order) (some sensor) none
    (s.retireForReplacement order cause)
  exact ⟨p, b, by simpa [State.strokeFails] using hp, by simpa [State.strokeFails] using hb⟩

/-! ### The die deadline (R164) -/

/-- The Punch Controller finishes with an item whose stroke has ended (R163, R164). -/
theorem State.strokeFails_punchFinishes {s : State} (order : Nat) (cause : Cause) (halt : HaltCause) (sensor : Nat)
    (hdie : s.punch.die = none) (hstart : s.punch.start = none) (hdead : s.punch.deadline = none) :
    let u := s.strokeFails order cause halt sensor
    u.punchFinishes order = { u with
      punch := { u.punch with state := .idle, item := none, pattern := none, nextDie := 0 },
      line := u.line.modifyItem order fun j => { j with work := some .done } } := by
  intro u
  obtain ⟨p, b, hp, -⟩ := State.strokeFails_stations order cause halt sensor s
  have hidle : u.punch.toIdle = { u.punch with state := .idle, item := none, pattern := none, nextDie := 0 } := by
    simp only [u, hp, Punch.toIdle, hdie, hstart, hdead]
  rw [State.punchFinishes, hidle]
  rfl

theorem State.dieExpires_eq {s : State} {order n d : Nat} (hstate : s.punch.state = .stroking)
    (hitem : s.punch.item = some order) (hdie : s.punch.die = some n) (hd : s.punch.deadline = some d) :
    s.dieExpires = if reached s.clock.time d then
      let u := State.strokeFails order .dieFault .dieTimeout (11 + n) { s with
        punch := { s.punch with dies := s.punch.dies.set n false, die := none, start := none, deadline := none } }
      { u with
        punch := { u.punch with state := .idle, item := none, pattern := none, nextDie := 0 },
        line := u.line.modifyItem order fun j => { j with work := some .done } }
      else s := by
  have hrelease : s.punch.releaseDie =
      { s.punch with dies := s.punch.dies.set n false, die := none, start := none, deadline := none } := by
    rw [Punch.releaseDie, hdie]
  have hexpires : s.dieExpires = if dueAt s.now s.punch.deadline then
      (State.strokeFails order .dieFault .dieTimeout (11 + n) { s with punch := s.punch.releaseDie }).punchFinishes order
      else s := by
    unfold State.dieExpires
    simp only [hstate, hitem, hdie]
    rfl
  rw [hexpires, hd, hrelease]
  exact if_congr (dueAt_some _ d) (State.strokeFails_punchFinishes order _ _ _ rfl rfl rfl) rfl

/-! ### The bend deadline (R169) -/

/-- The Bend Controller finishes with an item whose bend has ended (R168, R169). -/
theorem State.strokeFails_bendFinishes {s : State} (order : Nat) (cause : Cause) (halt : HaltCause) (sensor : Nat)
    (hbend : s.bend.bend = none) (hstart : s.bend.start = none) (hdead : s.bend.deadline = none) :
    let u := s.strokeFails order cause halt sensor
    u.bendFinishes order = { u with
      bend := { u.bend with state := .idle, item := none, profile := none },
      line := u.line.modifyItem order fun j => { j with work := some .done } } := by
  intro u
  obtain ⟨p, b, -, hb⟩ := State.strokeFails_stations order cause halt sensor s
  have hidle : u.bend.toIdle = { u.bend with state := .idle, item := none, profile := none } := by
    simp only [u, hb, Bend.toIdle, hbend, hstart, hdead]
  rw [State.bendFinishes, hidle]
  rfl

theorem State.bendExpires_eq {s : State} {order d : Nat} {k : BendKind} (hstate : s.bend.state = .bending)
    (hitem : s.bend.item = some order) (hbend : s.bend.bend = some k) (hd : s.bend.deadline = some d) :
    s.bendExpires = if reached s.clock.time d then
      let u := State.strokeFails order .bendFault .bendTimeout 23 { s with
        bend := { s.bend with
          outLead := if k = .lead then false else s.bend.outLead, outTail := if k = .tail then false else s.bend.outTail,
          bend := none, start := none, deadline := none } }
      { u with
        bend := { u.bend with state := .idle, item := none, profile := none },
        line := u.line.modifyItem order fun j => { j with work := some .done } }
      else s := by
  have hrelease : s.bend.release = { s.bend with
      outLead := if k = .lead then false else s.bend.outLead, outTail := if k = .tail then false else s.bend.outTail,
      bend := none, start := none, deadline := none } := by
    rw [Bend.release, hbend]
    cases k <;> rfl
  have hexpires : s.bendExpires = if dueAt s.now s.bend.deadline then
      (State.strokeFails order .bendFault .bendTimeout 23 { s with bend := s.bend.release }).bendFinishes order
      else s := by
    unfold State.bendExpires
    simp only [hstate, hitem]
    rfl
  rw [hexpires, hd, hrelease]
  exact if_congr (dueAt_some _ d) (State.strokeFails_bendFinishes order _ _ _ rfl rfl rfl) rfl

/-- Settles O54: the stroke ends and the station finishes (`State.dieExpires_eq`, `State.bendExpires_eq`), the item
between them being the one that the line holds (`State.retireForReplacement_eq`). -/
theorem strokeTimeouts : Obligations.StrokeTimeouts := by
  intro order d it s hrun hit faulted finished
  have hfails : ∀ (cause : Cause) (halt : HaltCause) (sensor : Nat) (p : Punch) (b : Bend),
      State.strokeFails order cause halt sensor { s with punch := p, bend := b } =
        State.haltLine halt (some order) (some sensor) none (faulted cause { s with punch := p, bend := b }) :=
    fun cause halt sensor p b => by
      have hitem : State.item { s with punch := p, bend := b } order = some it := hit
      rw [State.strokeFails, State.retireForReplacement_eq hitem]
      rfl
  refine ⟨fun n hstate hitem hdie hd => ?_, fun k hstate hitem hbend hd => ?_⟩
  · show taken State.dieExpires s = _
    rw [taken_running _ _ hrun, State.dieExpires_eq hstate hitem hdie hd, hfails]
    rfl
  · show taken State.bendExpires s = _
    rw [taken_running _ _ hrun, State.bendExpires_eq hstate hitem hbend hd, hfails]
    rfl

end Sys2Proof.Machine
end


-- ==== Sys2Proof/Proofs/ScheduleRequests.lean ====
section
/-! PROOF. The requests of the Exposure Scheduler: holds, line assignment and stock (chapter 3). -/

namespace Sys2Proof.Machine

/-! ### Holds (R59, R60) -/

/-- Settles O27: the refusals in their order for either kind of hold (`Answer.answering_ite`). -/
theorem holdsAndReleases : Obligations.HoldsAndReleases := by
  intro tag line p s onPlate onLine
  have hplate : ∀ t hold, (applyHold p hold s).answering t = onPlate t hold := fun t hold =>
    Answer.answering_ite (plateBad_iff p) rfl fun _ => Answer.answering_ite (s.entry_isNone p) rfl fun _ => rfl
  have hline : ∀ t hold, (applyLineHold line hold s).answering t = onLine t hold := fun t hold =>
    Answer.answering_ite Iff.rfl rfl fun _ => rfl
  exact ⟨fun h => (request_answers h).trans (congrArg _ (hplate _ true)),
    fun h => (request_answers h).trans (congrArg _ (hplate _ false)),
    fun h => (request_answers h).trans (congrArg _ (hline _ true)),
    fun h => (request_answers h).trans (congrArg _ (hline _ false))⟩

/-! ### LINE ASSIGN (R61) -/

theorem pressOf_le {n : Nat} (h : n ≤ 5) : pressOf n = some (some n) := if_pos h

theorem pressOf_none : pressOf 255 = some none := rfl

theorem pressOf_bad {n : Nat} (h5 : 5 < n) (h : n ≠ 255) : pressOf n = none := by
  rw [pressOf, if_neg (by omega), if_neg h]

/-- The refusals of LINE ASSIGN in their order, or the new assignment (R61). -/
theorem applyLineAssign_eq (line press : Nat) (s : State) : applyLineAssign line press s =
    if 7 < line ∨ (5 < press ∧ press ≠ 255) then refuse .range s
    else if press ≤ 5 ∧ s.punch.presses.getD press none = none then refuse .notFound s
    else accept (State.dispatchPass { s with sched := { s.sched with
      assignment := s.sched.assignment.set line (if press ≤ 5 then some press else none) } }) := by
  unfold applyLineAssign
  by_cases h5 : press ≤ 5
  · have hnot : ¬ (5 < press ∧ press ≠ 255) := by omega
    simp [pressOf_le h5, h5, hnot, State.press]
  · by_cases h255 : press = 255
    · subst h255
      simp [pressOf_none]
    · simp [pressOf_bad (by omega : 5 < press) h255, h255, (by omega : 5 < press)]

/-! ### STOCK SET (R63) -/

theorem imagerOf_code (i : Imager) : imagerOf (imagerCode i) = some i := by cases i <;> rfl

theorem imagerOf_beyond {n : Nat} (h : 2 ≤ n) : imagerOf n = none := by
  match n with
  | n + 2 => rfl

theorem ImagerState.settable_iff (x : ImagerState) : x.settable = true ↔ x = .idle ∨ x = .fault := by
  cases x <;> simp [ImagerState.settable]

/-- Settles O30: LINE ASSIGN by `applyLineAssign_eq`, STOCK SET along the imager coded and its refusals. -/
theorem lineAssignAndStockSet : Obligations.LineAssignAndStockSet := by
  intro tag line press size count i s assign stock state
  refine ⟨fun h => ?_, fun h => ?_, fun n hn h => ?_⟩
  · refine (request_answers h).trans (congrArg _ ?_)
    rw [applyLineAssign_eq]
    exact Answer.answering_ite Iff.rfl rfl fun _ => Answer.answering_ite Iff.rfl rfl fun _ => rfl
  · have hrange : (!(decide (size ≤ 3) && decide (count ≤ 255))) = true ↔ 3 < size ∨ 255 < count := by
      simp only [Bool.not_eq_true', ← Bool.not_eq_true, Bool.and_eq_true, decide_eq_true_eq]
      omega
    have hbusy : (!(s.channel i).seq.state.settable) = true ↔ state ≠ .idle ∧ state ≠ .fault := by
      rw [Bool.not_eq_true', ← Bool.not_eq_true, ImagerState.settable_iff, not_or]
      exact Iff.rfl
    refine (request_answers h).trans (congrArg _ ?_)
    rw [applyStockSet, imagerOf_code]
    exact Answer.answering_ite hrange rfl fun _ => Answer.answering_ite hbusy rfl fun _ => rfl
  · refine request_refused h ?_
    rw [applyStockSet, imagerOf_beyond hn]

end Sys2Proof.Machine
end


-- ==== Sys2Proof/Proofs/DispatchPass.lean ====
section
/-! PROOF. The dispatch pass: which build is eligible, what a dispatch leaves, the job that it starts, and that no step
leaves a pass owed (chapter 3, and R74 to R87 for the job). -/

namespace Sys2Proof.Machine

/-! ### Eligibility (R65) -/

theorem Affinity.admits_iff (x : Affinity) (i : Imager) :
    x.admits i = true ↔ x = .any ∨ (x = .a ∧ i = .a) ∨ (x = .b ∧ i = .b) := by
  cases x <;> cases i <;> simp [Affinity.admits]

/-- No condition of R65 fails. -/
theorem State.blocking_none_iff {s : State} {b : Build} {e : MapEntry} (he : s.entry b.plate = some e) (i : Imager) :
    s.blocking i b = none ↔
      b.bid ∈ s.plates.queue ∧ e.hold = false ∧ s.lineHeld b.plate.line = false ∧ s.assigned b.plate.line ≠ none ∧
      e.affinity.admits i = true ∧ (s.sched.stock.get i).count ≠ 0 ∧ (s.sched.stock.get i).size = e.size ∧
      ∃ z, s.sizeOf e.size = some z ∧ (s.channel i).settings.g + z.x ≤ (s.channel i).settings.pRev := by
  have hite : ∀ (p : Prop) [Decidable p] (r : Block) (o : Option Block),
      (if p then some r else o) = none ↔ ¬ p ∧ o = none := fun p _ r o => by by_cases h : p <;> simp [h]
  unfold State.blocking
  rw [he]
  simp only [hite]
  cases s.sizeOf e.size with
  | none => simp
  | some z => simp [State.queued]

theorem State.eligible_iff {s : State} {b : Build} {e : MapEntry} (hb : s.build b.bid = some b)
    (he : s.entry b.plate = some e) (i : Imager) :
    s.eligible i b.bid = true ↔
      b.bid ∈ s.plates.queue ∧ e.hold = false ∧ s.lineHeld b.plate.line = false ∧ s.assigned b.plate.line ≠ none ∧
      (e.affinity = .any ∨ (e.affinity = .a ∧ i = .a) ∨ (e.affinity = .b ∧ i = .b)) ∧
      0 < (s.sched.stock.get i).count ∧ (s.sched.stock.get i).size = e.size ∧
      ∃ z, s.sizeOf e.size = some z ∧ (s.channel i).settings.g + z.x ≤ (s.channel i).settings.pRev := by
  rw [State.eligible, hb]
  dsimp only
  rw [decide_eq_true_eq, State.blocking_none_iff he, Affinity.admits_iff, Nat.pos_iff_ne_zero]

/-! ### The pass of one imager (R66) -/

theorem State.passFor_busy {s : State} {i : Imager} (h : (s.channel i).seq.state ≠ .idle) : s.passFor i = s := if_neg h

theorem State.passFor_blocked {s : State} {i : Imager} (h : ∀ n ∈ s.plates.queue, s.eligible i n = false) :
    s.passFor i = s := by
  have hnone : s.firstEligible i = none := List.find?_eq_none.mpr fun n hn => by simp [h n hn]
  unfold State.passFor
  rw [hnone]
  split <;> rfl

theorem State.firstEligible_eq {s : State} {i : Imager} {n : Nat} {before after : List Nat}
    (hq : s.plates.queue = before ++ n :: after) (hb : ∀ m ∈ before, s.eligible i m = false)
    (hn : s.eligible i n = true) : s.firstEligible i = some n := by
  have hnone : before.find? (fun m => s.eligible i m) = none := List.find?_eq_none.mpr fun m hm => by simp [hb m hm]
  rw [State.firstEligible, hq, List.find?_append, hnone, Option.none_or, List.find?_cons_of_pos hn]

theorem State.passFor_dispatches {s : State} {i : Imager} {b : Build} {e : MapEntry}
    (hidle : (s.channel i).seq.state = .idle) (hfirst : s.firstEligible i = some b.bid)
    (hb : s.build b.bid = some b) (he : s.entry b.plate = some e) : s.passFor i = s.dispatchBuild i b e := by
  unfold State.passFor
  rw [if_pos hidle, hfirst, Option.bind_some, hb]
  dsimp only
  rw [he]

/-! ### Dispatch (R68, R114) -/

/-- A composer that takes a new value, and the port that it asks for. -/
theorem State.putComposer_eq (i : Imager) (r : Composer × Bool) (s : State) :
    s.putComposer i r = { s with
      chan := s.chan.set i { s.chan.get i with composer := r.1 },
      store := if r.2 then { s.store with port := s.store.port.request (Requester.ofImager i) } else s.store } := by
  obtain ⟨c, asks⟩ := r
  cases asks <;> rfl

/-- Entry into LOADING: the imager's outputs, its sequencer, its composer and the port that the first fill asks for. -/
theorem State.enterLoading_eq (i : Imager) (n : Nat) (j : Job) (s : State) :
    s.enterLoading i n j =
      let c := s.chan.get i
      let started := c.composer.start j
      { s with
        chan := s.chan.set i { c with
          out := { c.out with load := true },
          seq := { c.seq with
            state := .loading, build := some n, retired := false,
            loadDeadline := some ((s.clock.time + s.link.timing.load) % 4294967296),
            skipRun := 0, skipped := 0, steps := 0, written := 0 },
          composer := started.1 },
        store := if started.2 then
          { s.store with port := s.store.port.request (Requester.ofImager i) } else s.store } := by
  unfold State.enterLoading
  rw [State.putComposer_eq]
  cases i <;> rfl

/-- The plate tables of a dispatch: the build has left the queue, ASSIGNED with its imager, press, fan-out and size. -/
def Plates.dispatched (t : Plates) (bid : Nat) (i : Imager) (press : Option Nat) (fan : Int) (z : Size) : Plates :=
  { t with
    queue := t.queue.filter fun n => decide (n ≠ bid),
    builds := t.builds.map fun d => if d.bid = bid then
      { d with imager := some i, press := press, fan := some fan, size := some z, state := .assigned } else d }

/-- The Exposure Scheduler with one plate of the imager's stock taken. -/
def Scheduler.plateTaken (t : Scheduler) (i : Imager) : Scheduler :=
  { t with stock := t.stock.set i ⟨(t.stock.get i).size, (t.stock.get i).count - 1⟩ }

/-- The waiting builds of STOCK do not depend on the count of the stock (Table 3.1). -/
theorem State.waitingBuilds_plateTaken (i : Imager) (s : State) :
    State.waitingBuilds { s with sched := s.sched.plateTaken i } i = s.waitingBuilds i := by
  cases i <;> rfl

/-- The eight steps of a dispatch, in the order of R68. -/
theorem State.dispatchBuild_eq {s : State} {b : Build} {e : MapEntry} {press : Option Nat} {fan : Int} {z : Size}
    (i : Imager) (hpress : s.assigned b.plate.line = press)
    (hfan : ((press.bind s.press).map fun p => p.fans.getD b.plate.across 0).getD 0 = fan)
    (hz : (s.sizeOf e.size).getD ⟨0, 0⟩ = z) :
    let stock := s.sched.stock.get i
    let plates := s.plates.dispatched b.bid i press fan z
    s.dispatchBuild i b e = State.enterLoading i b.bid (jobOf s.store z fan e.positions b.bindings) { s with
      plates := plates,
      sched := s.sched.plateTaken i,
      reports := if stock.count = 1 then
          s.reports.raise (Source.stock i) (.stock
            ⟨i, stock.size, b.plate, b.generation, State.waitingBuilds { s with plates := plates } i⟩) s.clock.time
        else s.reports } := by
  intro stock plates
  subst hpress hfan hz
  let taken : State := { s with plates := plates, sched := s.sched.plateTaken i }
  have hraise : (if stock.count = 1 then taken.raise (Source.stock i) (.stock
        ⟨i, stock.size, b.plate, b.generation, taken.waitingBuilds i⟩) else taken) =
      { taken with reports := if stock.count = 1 then
          s.reports.raise (Source.stock i) (.stock
            ⟨i, stock.size, b.plate, b.generation, State.waitingBuilds { s with plates := plates } i⟩) s.clock.time
        else s.reports } := by
    have hwaiting : taken.waitingBuilds i = State.waitingBuilds { s with plates := plates } i :=
      State.waitingBuilds_plateTaken i { s with plates := plates }
    rw [hwaiting]
    split <;> rfl
  exact congrArg (fun u : State => u.enterLoading i b.bid (jobOf u.store _ _ e.positions b.bindings)) hraise

/-! ### The job (R74 to R85) -/

/-- The placement that a job makes of a position with its binding (R85). -/
def Binding.placed (st : Store) (z : Size) (f : Int) (q : Position) : Binding → Option Placement
  | .bound k v => (st.find k v).map fun r => placementOf z f r q
  | _ => none

theorem jobOf_position {st : Store} {z : Size} {f : Int} {qs : List Position} {bs : List Binding} {n : Nat}
    {q : Position} {b : Binding} (hq : qs[n]? = some q) (hb : bs[n]? = some b) :
    (jobOf st z f qs bs).positions[n]? = some (b.placed st z f q) := by
  have hzip : (qs.zip bs)[n]? = some (q, b) := List.getElem?_zip_eq_some.mpr ⟨hq, hb⟩
  rw [jobOf, List.getElem?_map, hzip]
  cases b <;> rfl

theorem jobOf_unbound {st : Store} {z : Size} {f : Int} {qs : List Position} {bs : List Binding} {n : Nat}
    {q : Position} {b : Binding} (hq : qs[n]? = some q) (hb : bs[n]? = some b) (h : b = .waiting ∨ b = .blank) :
    (jobOf st z f qs bs).positions[n]? = some none := by
  rw [jobOf_position hq hb]
  rcases h with rfl | rfl <;> rfl

theorem jobOf_bound {st : Store} {z : Size} {f : Int} {qs : List Position} {bs : List Binding} {n : Nat} {q : Position}
    {k : PageKey} {v : Nat} {r : PageRecord} (hq : qs[n]? = some q) (hb : bs[n]? = some (.bound k v))
    (hr : st.find k v = some r) :
    (jobOf st z f qs bs).positions[n]? = some (some (placementOf z f r q)) := by
  rw [jobOf_position hq hb, Binding.placed, hr]
  rfl

theorem isClipped_eq (l x w t x0 y0 : Nat) : isClipped l x w t x0 y0 = decide (l < y0 + t ∨ x < x0 + w) :=
  (Bool.decide_or _ _).symm

/-! ### The pass that is owed (R66, log 5) -/

theorem Outcomes.none_owed {s t : State} (h : Outcomes s t) (hs : s.passOwed = false) : t.passOwed = false := by
  cases h with
  | same => exact hs
  | event f hf => simp
  | answer a q ha => simp
  | joins q => simp
  | asserted => exact hs
  | powerOn l a b => rw [State.powerOn, State.attachFound_eq]; rfl

theorem step_none_owed {s t : State} (hs : s.passOwed = false) (h : step s = .next t) : t.passOwed = false := by
  rcases step_outcomes h with rfl | ⟨cs, ho⟩
  · simpa using hs
  · exact ho.none_owed hs

/-- Settles O31: the pass and what it is owed for, eligibility (`State.eligible_iff`), the pass of one imager
(`State.passFor_dispatches`) with the steps of the dispatch (`State.dispatchBuild_eq`, `State.enterLoading_eq`), and the
job (`jobOf_position`). -/
theorem dispatchPass : Obligations.DispatchPass := by
  refine ⟨fun s hrun => taken_running _ s hrun, fun s => ⟨s.finish_none, s.finish_owing⟩, fun s t => step_none_owed,
    fun i b e s hb he => State.eligible_iff hb he i, fun i s h => h.elim State.passFor_busy State.passFor_blocked,
    fun i b e press z s before after hidle hq hbefore helig hb he hpress hz => ?dispatched,
    fun st z f qs bs n q b hq hb => ?job, fun c j => rfl⟩
  case dispatched =>
    intro fan c stock plates started
    have hfan : (((some press).bind s.press).map fun p => p.fans.getD b.plate.across 0).getD 0 = fan := by
      simp only [fan, Option.bind_some, State.press]
      cases s.punch.presses.getD press none <;> rfl
    have hsize : (s.sizeOf e.size).getD ⟨0, 0⟩ = z := by
      rw [State.sizeOf, hz]
      rfl
    rw [State.passFor_dispatches hidle (State.firstEligible_eq hq hbefore helig) hb he,
      State.dispatchBuild_eq i hpress hfan hsize, State.enterLoading_eq]
    cases i <;> rfl
  case job =>
    intro j
    refine ⟨rfl, rfl, rfl, rfl, jobOf_unbound hq hb, fun k v r hbound hr => ?_⟩
    subst hbound
    rw [jobOf_bound hq hb hr, placementOf, isClipped_eq]
    rfl

end Sys2Proof.Machine
end


-- ==== Sys2Proof/Proofs/LineArrivals.lean ====
section
/-! PROOF. The arrivals at the Line Tracker's sensors that match their windows, for every window kind (chapters 7
and 9). -/

namespace Sys2Proof.Machine

/-! ### The match (R141) -/

theorem lineSensorAt_sensorInput (x : LineSensor) : lineSensorAt (sensorInput x) = some x := by cases x <;> rfl

theorem Window.minMet_iff (w : Window) (t : Nat) : w.minMet t = true ↔
    (reached t w.start ∧ w.min ≤ (t + 4294967296 - w.start) % 4294967296) ∨
      (w.frozen = true ∧ w.elapsed = some 65535) := by
  rw [Window.minMet, Bool.or_eq_true, Bool.and_eq_true, Bool.and_eq_true, decide_eq_true_eq, decide_eq_true_eq]
  exact or_congr_left (and_congr_left fun _ => decide_eq_true_iff)

/-- An arrival that matches its window moves the window's item, and to-gate windows may start. -/
theorem lineSensorArrival_matches {sensor : LineSensor} {x : Input} {p : PendingChange} {it : Item} {w : Window}
    {s : State} (hrun : s.resetAsserted = false) (hacc : accepting s (sensorInput sensor) x p)
    (hedge : x.raw = x.rising) (hat : s.line.windowAt sensor = some it) (hw : it.window = some w)
    (hmet : w.minMet (stampOf x p) = true) :
    exec (.lineSensorArrival sensor) s = .next (State.finish (State.startToGates
      ((s.accepted (sensorInput sensor) x).matched it w.kind (stampOf x p)))) := by
  have harrival : State.lineArrival sensor (stampOf x p) (s.accepted (sensorInput sensor) x) =
      ((s.accepted (sensorInput sensor) x).matched it w.kind (stampOf x p)).startToGates := by
    have hat' : (s.accepted (sensorInput sensor) x).line.windowAt sensor = some it := hat
    unfold State.lineArrival
    rw [hat']
    dsimp only
    rw [hw]
    exact if_pos hmet
  show taken (State.arrival (sensorInput sensor)) s = _
  rw [taken_running _ _ hrun, State.arrival_eq hacc hedge, State.takeArrival, lineSensorAt_sensorInput, ← harrival]

/-! ### The effects of a match (R139, R143, R145) -/

/-- The imager leaves UNLOADING, for which a pass is owed (R66, R126). -/
theorem State.unloaded_eq (i : Imager) (s : State) :
    s.unloaded i =
      let c := s.chan.get i
      if c.seq.state = .unloading then { s with
        passOwed := true,
        chan := s.chan.set i { c with
          out := { c.out with eject := false }, seq := { c.seq with state := .idle, build := none } } }
      else s := by
  unfold State.unloaded
  cases i <;> rfl

theorem State.unloaded_line (i : Imager) (l : Line) (s : State) :
    State.unloaded i { s with line := l } = { s.unloaded i with line := l } := by
  by_cases h : (s.chan.get i).seq.state = .unloading
  · simp only [State.unloaded_eq, if_pos h]
  · simp only [State.unloaded_eq, if_neg h]

theorem State.exitMatched_eq (it : Item) (s : State) :
    s.exitMatched it =
      let u : State := match it.source with
        | none => s
        | some i => s.unloaded i
      { u with line := s.line.modifyItem it.order fun j =>
          { j with window := none, location := .conveying, source := none } } := by
  unfold State.exitMatched
  cases it.source with
  | none => rfl
  | some i => exact State.unloaded_line i _ s

theorem State.entryMatched_eq (it : Item) (st : Station) (t : Nat) (s : State) :
    s.entryMatched it st t = { s with
      line := { s.line.modifyItem it.order fun j => { j with
          window := none, location := .inStation,
          work := some (if s.line.state = .running then .working else .notStarted),
          entryTime := some t } with
        out := s.line.out.setGate st false } } := by
  unfold State.entryMatched
  simp only [decide_eq_true_eq]
  rfl

/-- The five steps of a deposit (R181 to R183). -/
theorem State.depositItem_eq {s : State} {d : Destination} (hstate : s.sorter.state = .depositing)
    (hd : s.sorter.destination = some d) (it : Item) (t : Nat) :
    s.depositItem it t =
      let new := s.sorter.deposited d
      { s with
        line := { s.line with items := s.line.items.filter fun j => decide (j.order ≠ it.order) },
        sorter := new.toIdle,
        plates := (s.tellDelivery it d).plates,
        store := s.store.dropRefs it.bindings,
        reports := s.reports.offer (depositReport it d s.sorter new t) s.clock.time } := by
  have hdel : (s.deleteItem it.order).sorter = s.sorter := by simp
  unfold State.depositItem
  dsimp only
  rw [hdel, hstate, hd]
  cases d <;> rfl

/-- The cart that a deposit marks, in the terms of R181 step 1. -/
theorem Sorter.marks_eq (r : Sorter) (n slot : Nat) :
    r.marks n slot = ((r.carts.getD n ⟨none, false, []⟩).present &&
      match (r.carts.getD n ⟨none, false, []⟩).layout with
      | none => false
      | some g => decide (slot < g.units * 2 * g.acrosses)) := by
  unfold Sorter.marks Sorter.cart Cart.reset
  cases (r.carts.getD n ⟨none, false, []⟩).layout <;> rfl

/-! ### Lists (R32, R172) -/

theorem deliverPositions_at {qs : List Position} {bs : List Binding} {n : Nat} {q : Position} {b : Binding}
    (hq : qs[n]? = some q) (hb : bs[n]? = some b) : (deliverPositions qs bs)[n]? = some (q.delivered b) := by
  induction qs generalizing bs n with
  | nil => simp at hq
  | cons q' qs ih =>
    cases bs with
    | nil => simp at hb
    | cons b' bs =>
      cases n with
      | zero =>
        obtain rfl := Option.some.inj hq
        obtain rfl := Option.some.inj hb
        rfl
      | succ n => exact ih hq hb

theorem mem_insertRising (n m : Nat) (l : List Nat) : m ∈ insertRising n l ↔ m = n ∨ m ∈ l := by
  induction l with
  | nil => simp [insertRising]
  | cons k l ih =>
    unfold insertRising
    split
    · exact List.mem_cons
    · split
      · rename_i hn
        simp [hn]
      · rw [List.mem_cons, List.mem_cons, ih]
        exact or_left_comm

/-- Settles O48: the match (`lineSensorArrival_matches`) with the effect of each window kind. -/
theorem lineSensorMatches : Obligations.LineSensorMatches := by
  refine ⟨fun sensor x p it w s hrun hacc hedge hat hw hmet => ?_, fun qs bs n q b hq hb => ?_, mem_insertRising⟩
  · intro t stamp moved entered
    have hexec : ∀ (k : WindowKind) (u : State), w.kind = k → (t.matched it k stamp).startToGates = u →
        exec (.lineSensorArrival sensor) s = .next u.finish := fun k u hk hu => by
      rw [lineSensorArrival_matches hrun hacc hedge hat hw ((w.minMet_iff _).mpr hmet), hk, ← hu]
    have hentry : ∀ st, (t.entryMatched it st stamp).startToGates = moved entered (s.line.out.setGate st false) t :=
      fun st => by
        rw [State.entryMatched_eq]
        rfl
    refine ⟨fun hk => hexec .exit _ hk ?exit, ?gate, fun hk => hexec .punchEntry _ hk (hentry .punch),
      fun hk => hexec .bendEntry _ hk (hentry .bend), fun hk => hexec .sortEntry _ hk (hentry .sort), ?deposit⟩
    case exit =>
      rw [State.matched, State.exitMatched_eq]
      simp only [State.unloaded_eq]
      rfl
    case gate =>
      rintro (hk | hk | hk)
      · exact hexec .transferGate _ hk rfl
      · exact hexec .linkGate _ hk rfl
      · exact hexec .outfeedGate _ hk rfl
    case deposit =>
      intro d hk hstate hd r delivered finished
      refine hexec .deposit _ hk ?_
      rw [State.matched, State.depositItem_eq (s := t) hstate hd]
      cases d with
      | reject => rfl
      | remake => rfl
      | cart n slot =>
        simp only [Sorter.deposited, depositReport, Sorter.marks_eq]
        rfl
  · rw [deliverPositions_at hq hb]
    cases b <;> rfl

end Sys2Proof.Machine
end


-- ==== Sys2Proof/Proofs/LineRequests.lean ====
section
/-! PROOF. The requests of the line: its start, its stop, its resumption with KEEP or REMOVE (chapter 7). -/

namespace Sys2Proof.Machine

/-! ### LINE START and LINE STOP (R150) -/

theorem Line.startable_iff (l : Line) :
    l.startable = true ↔ l.state = .stopped ∨ (l.state = .halted ∧ ∃ h, l.halt = some h ∧ h.cause = .stop) := by
  unfold Line.startable
  cases l.state <;> simp

/-! ### The item removed (R152, R166, R170, R184) -/

theorem Punch.removed_eq (p : Punch) : p.releaseDie.toIdle = { p with
    dies := match p.die with
      | some n => p.dies.set n false
      | none => p.dies
    state := .idle, item := none, pattern := none, nextDie := 0, die := none, start := none, deadline := none } := by
  unfold Punch.releaseDie
  cases p.die <;> rfl

theorem Bend.removed_eq (b : Bend) : b.release.toIdle = { b with
    outLead := if b.bend = some .lead then false else b.outLead,
    outTail := if b.bend = some .tail then false else b.outTail,
    state := .idle, item := none, profile := none, bend := none, start := none, deadline := none } := by
  unfold Bend.release
  cases b.bend with
  | none => rfl
  | some k => cases k <;> rfl

/-- The removed item is made known to its imager or to its station. -/
theorem State.tellRemoved_eq (it : Item) (s : State) :
    s.tellRemoved it = match it.location, it.zone with
      | .merging, _ => match it.source with
        | none => s
        | some i => s.unloaded i
      | .inStation, .punch => { s with punch := s.punch.releaseDie.toIdle }
      | .inStation, .bend => { s with bend := s.bend.release.toIdle }
      | .inStation, .sort => { s with sorter := s.sorter.toIdle }
      | _, _ => s := rfl

/-- The removal of an item: off the line, told to its holder, its references given up, and the build-need check for a
current one (R152). -/
theorem State.removeItem_eq (it : Item) (s : State) :
    s.removeItem it =
      let u := (s.deleteItem it.order).tellRemoved it
      let v : State := { u with store := s.store.dropRefs it.bindings }
      if it.cause = .none_ then v.needCheck it.plate none else v := by
  have hstore : ((s.deleteItem it.order).tellRemoved it).store = s.store := by simp
  unfold State.removeItem
  dsimp only
  rw [hstore]

/-! ### LINE RESUME (R151) -/

theorem firstOf_none {n : Nat} (h : 1 < n) : firstOf n = none := by
  match n with
  | n + 2 => rfl

theorem firstOf_le {n : Nat} (h : n ≤ 1) : firstOf n = some (decide (n = 0)) := by
  interval_cases n <;> rfl

theorem State.exitStillFull_iff (s : State) (h : HaltRecord) : s.exitStillFull h = true ↔
    h.cause = .exitFull ∧ ((h.exit = some .reject ∧ s.sorter.rejects = 40) ∨
      (h.exit = some .remake ∧ s.sorter.remakes = 12)) := by
  rw [State.exitStillFull, Bool.and_eq_true, decide_eq_true_eq]
  have hreject : s.sorter.full .reject = true ↔ s.sorter.rejects = 40 := decide_eq_true_iff
  have hremake : s.sorter.full .remake = true ↔ s.sorter.remakes = 12 := decide_eq_true_iff
  refine and_congr_right fun _ => ?_
  cases h.exit with
  | none => simp
  | some e => cases e <;> simp [hreject, hremake]

/-- A resumption of a HALTED line: refused while the exit of its halt record is full (R151). -/
theorem applyLineResume_halted {d : Nat} {s : State} {h : HaltRecord} (hd : d ≤ 1) (hs : s.line.state = .halted)
    (hh : s.line.halt = some h) : applyLineResume d s =
      if s.exitStillFull h = true then refuse .badState s
      else if d = 0 then accept s.returnToRunning
      else s.removable.elim (refuse .badState s) fun it =>
        ⟨(s.removeItem it).returnToRunning, .ok, it.removedBytes⟩ := by
  unfold applyLineResume
  rw [firstOf_le hd, hh]
  dsimp only
  rw [if_neg (not_not.mpr hs)]
  simp only [decide_eq_true_eq]
  cases s.removable <;> rfl

theorem State.removable_eq {s : State} {h : HaltRecord} (hh : s.line.halt = some h) :
    s.removable = h.item.bind fun g => s.item g.order := by
  rw [State.removable, hh]
  rfl

theorem Item.removedBytes_eq (it : Item) : it.removedBytes =
    be 2 it.order ++ be 1 it.plate.line ++ be 1 it.plate.unit ++ be 1 it.plate.face ++ be 1 it.plate.across ++
      be 1 it.generation := by
  simp only [Item.removedBytes, Machine.plateBytes, List.append_assoc]

/-- Settles O51: the refusals in their order, and REMOVE by the item that it takes off the line (`State.removeItem_eq`,
`State.tellRemoved_eq`). -/
theorem lineStartStopResume : Obligations.LineStartStopResume := by
  intro tag d s start stop resume removed
  have hremoved : ∀ it, s.removeItem it = removed it := fun it => by
    simp only [State.removeItem_eq, State.tellRemoved_eq, State.unloaded_eq, Punch.removed_eq, Bend.removed_eq]
    rfl
  refine ⟨fun hready => ?start, fun hready => ?stop, fun hready => ⟨fun hd => ?range, fun hd hs => ?notHalted,
    fun h hd hs hh => ?halted⟩⟩
  case start =>
    refine (request_answers hready).trans (congrArg _ ?_)
    exact Answer.answering_ite s.line.startable_iff rfl fun _ => rfl
  case stop =>
    refine (request_answers hready).trans (congrArg _ ?_)
    exact Answer.answering_ite Iff.rfl rfl fun _ => rfl
  case range =>
    refine request_refused hready ?_
    rw [applyLineResume, firstOf_none hd]
  case notHalted =>
    refine request_refused hready ?_
    rw [applyLineResume, firstOf_le hd]
    exact if_pos hs
  case halted =>
    refine (request_answers hready).trans (congrArg _ ?_)
    rw [applyLineResume_halted hd hs hh, State.removable_eq hh]
    refine Answer.answering_ite (s.exitStillFull_iff h) rfl fun _ => Answer.answering_ite Iff.rfl rfl fun _ => ?_
    cases h.item with
    | none => rfl
    | some g =>
      rw [Option.bind_some, State.item]
      dsimp only
      cases s.line.items.find? fun it => decide (it.order = g.order) with
      | none => rfl
      | some it =>
        show State.answering (s.removeItem it).returnToRunning resume .ok it.removedBytes = _
        rw [hremoved, Item.removedBytes_eq]

end Sys2Proof.Machine
end


-- ==== Sys2Proof/Proofs/FanOut.lean ====
section
/-! PROOF. Fan-out compensation: the target line count, the centred line index and its mirror (chapter 4). -/

namespace Sys2Proof.Machine

/-! ### The target line count (R76) -/

/-- The line delta is within half a line of H × f / 1,000,000. -/
theorem lineDelta_rounds (h : Nat) (f : Int) : 2 * |1000000 * lineDelta h f - h * f| ≤ 1000000 := by
  unfold lineDelta
  generalize (h : Int) * f = p
  have hround : ∀ q : Int, -1000000 ≤ 2 * q ∧ 2 * q ≤ 1000000 → 2 * |q| ≤ 1000000 := fun q hq => by
    have : |q| ≤ 500000 := abs_le.mpr (by omega)
    omega
  dsimp only
  split <;> exact hround _ (by omega)

section
variable {h : Nat} {f : Int} (hlow : -2000 ≤ f) (hhigh : f ≤ 2000)
include hlow hhigh

/-- At most 2000 ppm of the lines, and the rounding. -/
theorem abs_lineDelta_le : 1000 * |lineDelta h f| ≤ 2 * h + 500 := by
  have hclose := abs_le.mp (show |1000000 * lineDelta h f - h * f| ≤ 500000 by have := lineDelta_rounds h f; omega)
  have hppm : |(h : Int) * f| ≤ h * 2000 := by
    rw [abs_mul, Nat.abs_cast]
    exact mul_le_mul_of_nonneg_left (abs_le.mpr ⟨hlow, hhigh⟩) (Int.natCast_nonneg h)
  have := abs_le.mp hppm
  have : |lineDelta h f| ≤ (2 * h + 500) / 1000 := abs_le.mpr (by omega)
  omega

/-- From a page of two lines on, the target line count is the page's lines and the delta. -/
theorem targetLines_cast (hpage : 2 ≤ h) : (targetLines h f : Int) = h + lineDelta h f := by
  have := abs_lineDelta_le (h := h) hlow hhigh
  have := neg_abs_le (lineDelta h f)
  exact Int.toNat_of_nonneg (by omega)

theorem lt_two_mul_targetLines (hpage : 2 ≤ h) : h < 2 * targetLines h f := by
  have := abs_lineDelta_le (h := h) hlow hhigh
  have := neg_abs_le (lineDelta h f)
  have := targetLines_cast hlow hhigh hpage
  omega

end

/-! ### The centred line index (R77) -/

theorem lineIndex_mono (h t : Nat) : Monotone (lineIndex h t) := fun _ _ hle =>
  Nat.div_le_div_right (Nat.mul_le_mul_right h (by omega))

theorem lineIndex_lt {h t k : Nat} (hh : 0 < h) (hk : k < t) : lineIndex h t k < h :=
  Nat.div_lt_of_lt_mul (Nat.mul_lt_mul_of_pos_right (by omega) hh)

theorem lineIndex_self {h : Nat} (hh : 0 < h) (k : Nat) : lineIndex h h k = k := by
  rw [lineIndex, Nat.mul_div_mul_right _ _ hh]
  omega

/-- Where the source line moves on, it moves by the whole part of H / T or by one line more. -/
theorem lineIndex_succ {h t : Nat} (ht : 0 < t) (k : Nat) :
    lineIndex h t (k + 1) = lineIndex h t k + h / t ∨ lineIndex h t (k + 1) = lineIndex h t k + (h / t + 1) := by
  have hsplit : (2 * (k + 1) + 1) * h = (2 * k + 1) * h + 2 * h := by ring
  rw [lineIndex, hsplit, Nat.add_div (by omega), Nat.mul_div_mul_left _ _ two_pos, ← lineIndex]
  split <;> omega

/-- The index of the mirrored line: the products of the two lines sum to 2 × T × H. -/
theorem lineIndex_mirror {h t k : Nat} (hk : k < t) :
    lineIndex h t (t - 1 - k) + lineIndex h t k = if (2 * k + 1) * h % (2 * t) = 0 then h else h - 1 := by
  have hsum : (2 * (t - 1 - k) + 1) * h + (2 * k + 1) * h = 2 * t * h := by
    rw [← Nat.add_mul]
    congr 1
    omega
  have hpos : 0 < 2 * t := by omega
  unfold lineIndex
  generalize (2 * (t - 1 - k) + 1) * h = a at hsum ⊢
  generalize (2 * k + 1) * h = b at hsum ⊢
  have hdiv : a / (2 * t) + b / (2 * t) + (if 2 * t ≤ a % (2 * t) + b % (2 * t) then 1 else 0) = h := by
    rw [← Nat.add_div hpos, hsum, Nat.mul_div_cancel_left _ hpos]
  have hmod : (a % (2 * t) + b % (2 * t)) % (2 * t) = 0 := by
    rw [← Nat.add_mod, hsum, Nat.mul_mod_right]
  have ha := Nat.mod_lt a hpos
  have hb := Nat.mod_lt b hpos
  by_cases hcarry : 2 * t ≤ a % (2 * t) + b % (2 * t)
  · have hb : b % (2 * t) ≠ 0 := by omega
    rw [if_pos hcarry] at hdiv
    rw [if_neg hb]
    exact Nat.eq_sub_of_add_eq hdiv
  · rw [Nat.mod_eq_of_lt (not_le.mp hcarry)] at hmod
    rw [if_neg hcarry] at hdiv
    rw [if_pos (by omega)]
    exact hdiv

section
variable {h t : Nat} (hh : 0 < h) (hht : h < 2 * t)
include hht

theorem lineIndex_zero : lineIndex h t 0 = 0 :=
  Nat.div_eq_of_lt (by omega)

include hh

theorem lineIndex_last : lineIndex h t (t - 1) = h - 1 := by
  have hmirror := lineIndex_mirror (h := h) (show 0 < t by omega)
  have hmod : (2 * 0 + 1) * h % (2 * t) = h := by rw [Nat.mul_zero, Nat.zero_add, Nat.one_mul, Nat.mod_eq_of_lt hht]
  rwa [hmod, if_neg hh.ne', lineIndex_zero hht, Nat.add_zero, Nat.sub_zero] at hmirror

end

/-! #### Repeats and lines passed over -/

/-- A walk in steps of `a` and `a + 1`: its length in steps of `a`, and the greater steps. -/
theorem countP_greater_steps {g : Nat → Nat} {a n : Nat}
    (hstep : ∀ k < n, g (k + 1) = g k + a ∨ g (k + 1) = g k + (a + 1)) :
    g 0 + n * a + (List.range n).countP (fun k => decide (g (k + 1) = g k + (a + 1))) = g n := by
  induction n with
  | zero => simp
  | succ n ih =>
    have hshorter := ih fun k hk => hstep k (by omega)
    rw [List.range_succ, List.countP_append, List.countP_singleton, Nat.succ_mul]
    rcases hstep n (by omega) with hn | hn
    · simp only [hn, Nat.add_left_cancel_iff, Nat.left_eq_add, one_ne_zero, decide_false, Bool.false_eq_true, if_false]
      omega
    · simp only [hn, decide_true, if_true]
      omega

/-- The other steps of the walk. -/
theorem countP_lesser_steps {g : Nat → Nat} {a n : Nat}
    (hstep : ∀ k < n, g (k + 1) = g k + a ∨ g (k + 1) = g k + (a + 1)) :
    g n + (List.range n).countP (fun k => decide (g (k + 1) = g k + a)) = g 0 + n * (a + 1) := by
  have hgreater := countP_greater_steps hstep
  have hlength := List.length_eq_countP_add_countP (fun k => decide (g (k + 1) = g k + a)) (l := List.range n)
  have hother : (List.range n).countP (fun k => ¬ decide (g (k + 1) = g k + a)) =
      (List.range n).countP (fun k => decide (g (k + 1) = g k + (a + 1))) :=
    List.countP_congr fun k hk => by
      have := hstep k (List.mem_range.mp hk)
      simp only [decide_eq_true_eq]
      omega
  rw [List.length_range] at hlength
  rw [Nat.mul_succ]
  omega

/-- T > H: each line is read again or the next one is, and T - H times it is read again. -/
theorem lineIndex_repeats {h t : Nat} (hh : 0 < h) (hlt : h < t) :
    (∀ k, k + 1 < t → lineIndex h t (k + 1) = lineIndex h t k ∨ lineIndex h t (k + 1) = lineIndex h t k + 1) ∧
      (List.range (t - 1)).countP (fun k => decide (lineIndex h t (k + 1) = lineIndex h t k)) = t - h := by
  have hstep : ∀ k, lineIndex h t (k + 1) = lineIndex h t k + 0 ∨ lineIndex h t (k + 1) = lineIndex h t k + (0 + 1) := by
    have := lineIndex_succ (h := h) (show 0 < t by omega)
    rwa [Nat.div_eq_of_lt hlt] at this
  have hcount := countP_lesser_steps (n := t - 1) fun k _ => hstep k
  rw [lineIndex_last hh (by omega), lineIndex_zero (by omega)] at hcount
  exact ⟨fun k _ => hstep k, by simp only [Nat.add_zero] at hcount; omega⟩

/-- T < H: the next line is read or the one after it, and H - T times a line is passed over. -/
theorem lineIndex_passes {h t : Nat} (hlt : t < h) (hht : h < 2 * t) :
    (∀ k, k + 1 < t → lineIndex h t (k + 1) = lineIndex h t k + 1 ∨ lineIndex h t (k + 1) = lineIndex h t k + 2) ∧
      (List.range (t - 1)).countP (fun k => decide (lineIndex h t (k + 1) = lineIndex h t k + 2)) = h - t := by
  have hstep : ∀ k, lineIndex h t (k + 1) = lineIndex h t k + 1 ∨ lineIndex h t (k + 1) = lineIndex h t k + (1 + 1) := by
    have := lineIndex_succ (h := h) (show 0 < t by omega)
    rwa [Nat.div_eq_of_lt_le (k := 1) (by omega) (by omega)] at this
  have hcount : _ + (List.range (t - 1)).countP (fun k => decide (lineIndex h t (k + 1) = lineIndex h t k + 2)) = _ :=
    countP_greater_steps fun k _ => hstep k
  rw [lineIndex_last (by omega) hht, lineIndex_zero hht] at hcount
  exact ⟨fun k _ => hstep k, by omega⟩

/-! ### The source line at both rotations (R78) -/

/-- The index at rotation 0 and its mirror at rotation 180. -/
theorem sourceLine_eq (h t k : Nat) :
    sourceLine false h t k = lineIndex h t k ∧ sourceLine true h t k = h - 1 - lineIndex h t k := ⟨rfl, rfl⟩

/-- The source line never falls at rotation 0, and at rotation 180 it never rises and stays inside the page. -/
theorem sourceLine_walk {h : Nat} (hh : 0 < h) (t : Nat) {k m : Nat} (hkm : k ≤ m) :
    sourceLine false h t k ≤ sourceLine false h t m ∧ sourceLine true h t m ≤ sourceLine true h t k ∧
      sourceLine true h t k < h := by
  have hmono := lineIndex_mono h t hkm
  simp only [sourceLine_eq]
  omega

/-- Settles O33: the rounding (`lineDelta_rounds`); the ends, the steps and the mirror of the line index from
`lineIndex_succ` and `lineIndex_mirror`; the source line by them. -/
theorem centredLineIndex : Obligations.CentredLineIndex := by
  intro bands f hone hmax hlow hhigh h t delta
  have hh : 0 < h := by omega
  have hht : h < 2 * t := lt_two_mul_targetLines hlow hhigh (by omega)
  have hdelta : delta = lineDelta h f := by
    have := targetLines_cast (h := h) hlow hhigh (by omega)
    omega
  have hfirst := lineIndex_zero hht
  have hlast := lineIndex_last hh hht
  refine ⟨⟨?rounded, ?bounded⟩, hfirst, hlast, fun k hk => lineIndex_lt hh hk, ?same, lineIndex_repeats hh,
    fun hlt => lineIndex_passes hlt hht, fun k hk => lineIndex_mirror hk, sourceLine_eq h t,
    fun k m hkm _ => sourceLine_walk hh t hkm, ?top, ?bottom⟩
  case rounded => exact hdelta ▸ lineDelta_rounds h f
  case bounded =>
    have := abs_lineDelta_le (h := h) hlow hhigh
    rw [hdelta]
    omega
  case same =>
    intro hth k _
    rw [hth, lineIndex_self hh]
  case top => rw [(sourceLine_eq h t 0).2, hfirst, Nat.sub_zero]
  case bottom => rw [(sourceLine_eq h t (t - 1)).2, hlast, Nat.sub_self]

end Sys2Proof.Machine
end


-- ==== Sys2Proof/Proofs/Emission.lean ====
section
/-! PROOF. A revolution of EXPOSING as it begins, and the end of an emission (chapter 6). -/

namespace Sys2Proof.Machine

/-! ### The swath buffers (R87, R89) -/

theorem Composer.fullBuffer_first {c : Composer} {n : Nat} (h : c.buf0.state = .full ∧ c.buf0.swath = n) :
    c.fullBuffer n = some 0 := if_pos h

theorem Composer.fullBuffer_second {c : Composer} {n : Nat} (h0 : ¬ (c.buf0.state = .full ∧ c.buf0.swath = n))
    (h1 : c.buf1.state = .full ∧ c.buf1.swath = n) : c.fullBuffer n = some 1 :=
  (if_neg h0).trans (if_pos h1)

theorem Composer.fullBuffer_none {c : Composer} {n : Nat} (h0 : ¬ (c.buf0.state = .full ∧ c.buf0.swath = n))
    (h1 : ¬ (c.buf1.state = .full ∧ c.buf1.swath = n)) : c.fullBuffer n = none :=
  (if_neg h0).trans (if_neg h1)

theorem Composer.emitted_eq (c : Composer) (n : Nat) :
    c.emitted n = ({ c with
      nextEmit := c.nextEmit + 1,
      buf0 := if n = 0 then { c.buf0 with state := .free } else c.buf0,
      buf1 := if n = 0 then c.buf1 else { c.buf1 with state := .free } } : Composer).startFills := by
  unfold Composer.emitted Composer.setBuffer Composer.buffer
  by_cases h : n = 0
  · simp only [if_pos h]
  · simp only [if_neg h]

/-- A fill's start leaves the job and the next swath to emit. -/
theorem Composer.startFill_emits (c : Composer) :
    c.startFill.1.job = c.job ∧ c.startFill.1.nextEmit = c.nextEmit := by
  have hset : ∀ (d : Composer) (n : Nat) (b : Buffer),
      (d.setBuffer n b).job = d.job ∧ (d.setBuffer n b).nextEmit = d.nextEmit := fun d n b => by
    unfold Composer.setBuffer
    split <;> exact ⟨rfl, rfl⟩
  unfold Composer.startFill
  dsimp only
  repeat' split
  · exact hset _ _ _
  · exact hset _ _ _
  · exact ⟨rfl, rfl⟩
  · exact ⟨rfl, rfl⟩

theorem Composer.startFills_emits (c : Composer) :
    c.startFills.1.job = c.job ∧ c.startFills.1.nextEmit = c.nextEmit := by
  unfold Composer.startFills
  dsimp only
  split
  · exact c.startFill_emits
  · obtain ⟨hjob, hnext⟩ := c.startFill.1.startFill_emits
    exact ⟨hjob.trans c.startFill_emits.1, hnext.trans c.startFill_emits.2⟩

theorem Composer.emitted_emits (c : Composer) (n : Nat) :
    (c.emitted n).1.job = c.job ∧ (c.emitted n).1.nextEmit = c.nextEmit + 1 := by
  rw [Composer.emitted_eq]
  exact Composer.startFills_emits _

/-! ### A revolution begins (R118, R122) -/

section
variable {s : State} {i : Imager}

theorem State.writeOrSkip_writes {n : Nat}
    (hfull : (s.chan.get i).composer.fullBuffer (s.chan.get i).composer.nextEmit = some n) :
    s.writeOrSkip i true = { s with chan := s.chan.set i { s.chan.get i with
      composer := (s.chan.get i).composer.emit n,
      seq := { (s.chan.get i).seq with revolution := some (.writing n), emissionPending := true, skipRun := 0 } } } := by
  unfold State.writeOrSkip State.channel
  simp only [hfull]
  rfl

theorem State.writeOrSkip_skips {valid : Bool}
    (hskip : valid = false ∨ (s.chan.get i).composer.fullBuffer (s.chan.get i).composer.nextEmit = none) :
    let c := s.chan.get i
    let skipped : State := { s with chan := s.chan.set i { c with seq := { c.seq with
      revolution := some .skipped, skipRun := c.seq.skipRun + 1,
      skipped := if c.seq.skipped < 65535 then c.seq.skipped + 1 else c.seq.skipped } } }
    s.writeOrSkip i valid =
      if c.settings.skipLimit ≤ c.seq.skipRun + 1 then skipped.endExposure i .skipLimit else skipped := by
  intro c skipped
  unfold State.writeOrSkip
  dsimp only
  split
  · rename_i hfull
    rcases hskip with hinvalid | hnone
    · cases hinvalid
    · cases hnone.symm.trans hfull
  · rfl

end

/-- Settles O38: the buffer that `Composer.fullBuffer` finds, then `State.writeOrSkip_writes` and
`State.writeOrSkip_skips`. -/
theorem revolutionWritesOrSkips : Obligations.RevolutionWritesOrSkips := by
  intro i valid s c full skipped writing
  refine ⟨?_, ?_, fun h => State.writeOrSkip_skips (h.imp_right fun hnone => ?_)⟩
  · rintro rfl hfirst
    exact State.writeOrSkip_writes (Composer.fullBuffer_first hfirst)
  · rintro rfl hfirst hsecond
    exact State.writeOrSkip_writes (Composer.fullBuffer_second hfirst hsecond)
  · exact Composer.fullBuffer_none hnone.1 hnone.2

/-! ### The end of an emission (R109, R120) -/

theorem Channel.emissionOver_iff {c : Channel} {j : Job} (hj : c.composer.job = some j) :
    c.emissionOver = true ↔ (c.settings.g + j.x) * (2 * (c.settings.d + 1)) ≤ c.drum.period := by
  unfold Channel.emissionOver
  rw [hj]
  exact decide_eq_true_iff

section
variable {s : State} {i : Imager}

/-- With no emission pending, or before its end, nothing ends. -/
theorem State.emissionEnds_early
    (h : (s.chan.get i).seq.emissionPending = false ∨ (s.chan.get i).emissionOver = false) : s.emissionEnds i = s := by
  unfold State.emissionEnds
  dsimp only
  split
  · refine if_neg fun ⟨_, hpending, hover⟩ => ?_
    rcases h with h | h
    · cases h.symm.trans hpending
    · cases h.symm.trans hover
  · rfl

/-- The swath counted, its buffer freed and the fills started, with a carriage step due or not. -/
def State.swathWritten (i : Imager) (n : Nat) (due : Bool) (s : State) : State :=
  let c := s.chan.get i
  let r := c.composer.emitted n
  { s with
    chan := s.chan.set i { c with
      composer := r.1,
      seq := { c.seq with
        emissionPending := false, written := c.seq.written + 1, stepDue := due || c.seq.stepDue } },
    store := if r.2 then { s.store with port := s.store.port.request (Requester.ofImager i) } else s.store }

theorem State.swathWritten_eq (n : Nat) :
    (s.modifySeq i fun q => { q with emissionPending := false, written := q.written + 1 }).putComposer i
      ((s.channel i).composer.emitted n) = s.swathWritten i n false := by
  rw [State.putComposer_eq]
  cases i <;> rfl

theorem State.swathWritten_due (n : Nat) :
    (s.swathWritten i n false).modifySeq i (fun q => { q with stepDue := true }) = s.swathWritten i n true := by
  cases i <;> rfl

theorem State.channel_swathWritten (n : Nat) (due : Bool) :
    ((s.swathWritten i n due).channel i).composer = ((s.channel i).composer.emitted n).1 ∧
      ((s.swathWritten i n due).channel i).seq.retired = (s.channel i).seq.retired := by
  cases i <;> exact ⟨rfl, rfl⟩

/-- The end of the emission from buffer `n` (R120): the last swath, a retired build, or a carriage step due. -/
theorem State.emissionEnds_written {n : Nat} {j : Job} (hstate : (s.channel i).seq.state = .exposing)
    (hpending : (s.channel i).seq.emissionPending = true) (hwriting : (s.channel i).seq.revolution = some (.writing n))
    (hj : (s.channel i).composer.job = some j) (hover : (s.channel i).emissionOver = true) :
    s.emissionEnds i =
      if (s.channel i).composer.nextEmit + 1 = j.n then (s.swathWritten i n false).endExposure i .complete
      else if (s.channel i).seq.retired = true then (s.swathWritten i n false).endExposure i .stopped
      else s.swathWritten i n true := by
  obtain ⟨hcomposer, hretired⟩ := State.channel_swathWritten (s := s) (i := i) n false
  obtain ⟨hjob, hnext⟩ := (s.channel i).composer.emitted_emits n
  unfold State.emissionEnds
  dsimp only
  rw [hwriting]
  dsimp only
  rw [if_pos ⟨hstate, hpending, hover⟩, State.channel_modifySeq]
  dsimp only
  rw [State.swathWritten_eq, hcomposer, hretired, hjob, hnext, hj, State.swathWritten_due]
  rfl

end

/-- Settles O39: the emission that is over by `State.emissionEnds_written`, the others by `State.emissionEnds_early`. -/
theorem emissionEnds : Obligations.EmissionEnds := by
  intro i s hrun c
  refine ⟨fun n j hstate hpending hwriting hj hover => ?_, fun n j h => ?_⟩
  · intro freed r t
    have ht : ∀ due, s.swathWritten i n due = t due := fun due => by
      rw [State.swathWritten, Composer.emitted_eq]
      cases i <;> rfl
    show taken (State.emissionEnds i) s = _
    rw [taken_running _ _ hrun,
      State.emissionEnds_written hstate hpending hwriting hj ((Channel.emissionOver_iff hj).mpr hover), ht, ht]
    rfl
  · show taken (State.emissionEnds i) s = _
    rw [taken_running _ _ hrun, State.emissionEnds_early (h.imp_right ?_)]
    rintro ⟨_, hj, hearly⟩
    rw [← Bool.not_eq_true, Channel.emissionOver_iff hj]
    exact Nat.not_le.mpr hearly

end Sys2Proof.Machine
end


-- ==== Sys2Proof/Proofs/ReportBounds.lean ====
section
/-! PROOF. The bounds of the Report Unit: 64 event reports, a mask level of 0 to 4, a sequence number of 0 to 255 (R193,
R195, R197). Only an offer makes an event report, and it keeps the bound; every operation is followed to its offers. -/

namespace Sys2Proof.Machine

/-- The event queue, the mask level and the sequence number are within their bounds (R193, R195, R197). -/
structure Reports.Bounded (r : Reports) : Prop where
  events : r.events.length ≤ 64
  mask : r.mask ≤ 4
  seq : r.seq < 256

namespace Reports.Bounded

variable {s t : State}

/-- Changes of anything but the event queue, the mask level and the sequence number. -/
theorem frame (h : s.reports.Bounded) (he : t.reports.events = s.reports.events := by simp)
    (hm : t.reports.mask = s.reports.mask := by simp) (hq : t.reports.seq = s.reports.seq := by simp) :
    t.reports.Bounded :=
  ⟨he ▸ h.events, hm ▸ h.mask, hq ▸ h.seq⟩

theorem offer (h : s.reports.Bounded) (b : EventBody) : (s.offer b).reports.Bounded :=
  ⟨Reports.offer_length _ _ _ h.events, by simpa using h.mask, by simpa using h.seq⟩

/-- A report that is sent leaves its place and takes a sequence number modulo 256 (R195, R197). -/
theorem remove {r : Reports} (h : r.Bounded) (p : Pick) : (r.remove p).Bounded := by
  cases p with
  | event n => exact ⟨(List.length_eraseIdx_le _ _).trans h.events, h.mask, Nat.mod_lt _ (by decide)⟩
  | slot src => exact ⟨h.events, h.mask, Nat.mod_lt _ (by decide)⟩

theorem pump (h : s.reports.Bounded) : s.pump.reports.Bounded := by
  unfold State.pump
  split
  · exact h
  · split
    · exact h
    · split
      · exact h
      · exact h.remove _

/-! ### Pages (chapter 1) -/

theorem dropRecord (h : s.reports.Bounded) (r : PageRecord) (c : DropCause) (o : Option Nat) (v : Nat) :
    (s.dropRecord r c o v).reports.Bounded :=
  offer (h.frame (t := s.discardRecord r)) _

theorem takeBand (h : s.reports.Bounded) (f : BandFrame) : (s.takeBand f).reports.Bounded := by
  unfold State.takeBand
  dsimp only
  split
  · exact h.frame
  · split_ifs
    · exact h.frame
    · exact h
    · exact h.dropRecord _ _ _ _
    · exact h.dropRecord _ _ _ _
    · exact h.frame

theorem passHeld (h : s.reports.Bounded) : s.passHeld.reports.Bounded := by
  unfold State.passHeld
  split
  · exact takeBand (h.frame (t := { s with link := { s.link with holding := none } })) _
  · exact h

theorem bandArrives (h : s.reports.Bounded) (f : BandFrame) : (s.bandArrives f).reports.Bounded := by
  unfold State.bandArrives
  split
  · exact h.frame
  · exact h.takeBand f
  · exact h

theorem dropOvertaken (h : s.reports.Bounded) (v : Nat) (l : List PageRecord) :
    (s.dropOvertaken v l).reports.Bounded := by
  induction l generalizing s with
  | nil => exact h
  | cons r l ih => exact ih (h.dropRecord _ _ _ _)

theorem completePage (h : s.reports.Bounded) (k : PageKey) (v stream : Nat) :
    (s.completePage k v stream).reports.Bounded := by
  unfold State.completePage
  dsimp only
  refine dropOvertaken ?_ v _
  split <;> exact h

theorem bandWritten (h : s.reports.Bounded) (j : WriteJob) : (s.bandWritten j).reports.Bounded := by
  refine passHeld ?_
  split
  · refine completePage ?_ _ _ _
    exact h
  · exact h

theorem lineWritten (h : s.reports.Bounded) (j : WriteJob) : (s.lineWritten j).reports.Bounded := by
  unfold State.lineWritten
  dsimp only
  split
  · refine bandWritten ?_ j
    exact h
  · exact h

theorem takeTransfer (h : s.reports.Bounded) (x : Transfer) : (s.takeTransfer x).reports.Bounded := by
  unfold State.takeTransfer
  split
  · exact h
  · split
    · split
      · exact h
      · exact h.lineWritten _
    · exact h.frame
    · exact h.frame

theorem transferEnds (h : s.reports.Bounded) (x : Transfer) : (s.transferEnds x).reports.Bounded :=
  takeTransfer (s := { s with store := { s.store with port := { s.store.port with busy := none } } }) h x

theorem receiveExpires (h : s.reports.Bounded) (n : Nat) : (s.receiveExpires n).reports.Bounded := by
  unfold State.receiveExpires
  dsimp only
  split
  · split
    · exact h
    · exact (h.dropRecord _ _ _ _).passHeld
  · exact h

theorem frameArrives (h : s.reports.Bounded) (l : List Byte) : (s.frameArrives l).reports.Bounded := by
  unfold State.frameArrives
  split_ifs
  · exact h.frame
  · exact h.frame
  · exact h.bandArrives _
  · exact h.frame

/-! ### Exposures (chapter 6) -/

theorem endExposure (h : s.reports.Bounded) (i : Imager) (k : EndKind) : (s.endExposure i k).reports.Bounded := by
  unfold State.endExposure
  dsimp only
  split
  · exact h.frame
  · exact offer (h.frame) _

theorem retireHeld (h : s.reports.Bounded) (i : Imager) : (s.retireHeld i).reports.Bounded := by
  have hs : (s.modifySeq i fun q => { q with retired := true }).reports.Bounded := h.frame
  unfold State.retireHeld
  dsimp only
  split
  · exact hs.endExposure i _
  · split
    · exact hs
    · exact hs.endExposure i _
  · exact hs

theorem retireBuild (h : s.reports.Bounded) (b : Build) (c : Cause) : (s.retireBuild b c).reports.Bounded := by
  unfold State.retireBuild
  dsimp only
  split
  · exact h.frame
  · exact retireHeld (h.frame) _

theorem clamped (h : s.reports.Bounded) (i : Imager) : (s.clamped i).reports.Bounded := by
  unfold State.clamped
  dsimp only
  split
  · split
    · exact endExposure (h.frame) i _
    · exact h.frame
  · exact h

theorem writeOrSkip (h : s.reports.Bounded) (i : Imager) (v : Bool) : (s.writeOrSkip i v).reports.Bounded := by
  unfold State.writeOrSkip
  dsimp only
  split
  · exact h.frame
  · split
    · exact endExposure (h.frame) i _
    · exact h.frame

theorem exposingIndex (h : s.reports.Bounded) (i : Imager) (v : Bool) : (s.exposingIndex i v).reports.Bounded := by
  unfold State.exposingIndex
  dsimp only
  split_ifs
  · exact h.endExposure i _
  · exact h.endExposure i _
  · exact writeOrSkip (h.frame) i v
  · exact h.writeOrSkip i v

theorem spinupCompletes (h : s.reports.Bounded) (i : Imager) : (s.spinupCompletes i).reports.Bounded := by
  refine exposingIndex ?_ i true
  exact h.frame

theorem spinupIndex (h : s.reports.Bounded) (i : Imager) (v : Bool) : (s.spinupIndex i v).reports.Bounded := by
  unfold State.spinupIndex
  dsimp only
  generalize (if v = true then _ else 0) = run
  have hs : (s.modifySeq i fun q => { q with validRun := run }).reports.Bounded := h.frame
  split
  · exact hs.spinupCompletes i
  · exact hs

theorem indexPulse (h : s.reports.Bounded) (i : Imager) : (s.indexPulse i).reports.Bounded := by
  unfold State.indexPulse
  dsimp only
  split
  · exact spinupIndex (h.frame) i _
  · exact exposingIndex (h.frame) i _
  · exact h.frame

theorem emissionEnds (h : s.reports.Bounded) (i : Imager) : (s.emissionEnds i).reports.Bounded := by
  unfold State.emissionEnds
  dsimp only
  split
  · split_ifs
    · exact endExposure (h.frame) i _
    · exact endExposure (h.frame) i _
    · exact h.frame
    · exact h
  · exact h

theorem stalls (h : s.reports.Bounded) (i : Imager) : (s.stalls i).reports.Bounded := by
  unfold State.stalls
  dsimp only
  split
  · exact h.endExposure i _
  · exact h

/-! ### The completion notice (R43) -/

theorem needCheck (h : s.reports.Bounded) (p : PlateId) (w : Option (PageKey × Nat)) :
    (s.needCheck p w).reports.Bounded := h.frame

theorem workEntry (h : s.reports.Bounded) (k : PageKey) (v : Nat) (p : PlateId) :
    (s.workEntry k v p).reports.Bounded := by
  unfold State.workEntry
  split
  · exact h
  · rename_i e _
    have hbuild : (match s.currentBuild p with
        | none => s
        | some b => if b.state.waits then s.rebindBuild e b k v else s.retireBuild b .superseded).reports.Bounded := by
      split
      · exact h
      · split
        · exact h.frame
        · exact h.retireBuild _ _
    refine needCheck ?_ p _
    split
    · exact hbuild
    · split
      · exact hbuild
      · exact hbuild

theorem workEntries (h : s.reports.Bounded) (k : PageKey) (v : Nat) (ps : List PlateId) :
    (s.workEntries k v ps).reports.Bounded := by
  induction ps generalizing s with
  | nil => exact h
  | cons p ps ih => exact ih (h.workEntry k v p)

theorem answerNotice (h : s.reports.Bounded) (n : Notice) : (s.answerNotice n).reports.Bounded := by
  unfold State.answerNotice
  split
  · exact h
  · refine offer ?_ _
    exact h

theorem workNotice (h : s.reports.Bounded) : s.workNotice.reports.Bounded := by
  unfold State.workNotice
  split
  · exact h
  · exact (h.workEntries _ _ _).answerNotice _

/-! ### Arrivals (R98, R141, R181) -/

theorem depositItem (h : s.reports.Bounded) (it : Item) (time : Nat) : (s.depositItem it time).reports.Bounded := by
  unfold State.depositItem
  dsimp only
  split
  · refine offer ?_ _
    exact h.frame
  · exact h

theorem matched (h : s.reports.Bounded) (it : Item) (k : WindowKind) (time : Nat) :
    (s.matched it k time).reports.Bounded := by
  unfold State.matched
  split
  case h_8 => exact h.depositItem it time
  all_goals exact h.frame

theorem lineArrival (h : s.reports.Bounded) (x : LineSensor) (time : Nat) : (s.lineArrival x time).reports.Bounded := by
  unfold State.lineArrival
  split
  · exact h.frame
  · split
    · exact h
    · split
      · exact h.matched _ _ _
      · exact h.frame

theorem takeArrival (h : s.reports.Bounded) (n time : Nat) : (s.takeArrival n time).reports.Bounded := by
  unfold State.takeArrival
  split
  · exact h.lineArrival _ _
  · split_ifs
    · exact h.clamped _
    · exact h.clamped _
    all_goals exact h.frame

theorem arrival (h : s.reports.Bounded) (n : Nat) : (s.arrival n).reports.Bounded := by
  unfold State.arrival
  split
  · exact takeArrival (h.frame) _ _
  · exact h

theorem settle (h : s.reports.Bounded) (n : Nat) : (s.settle n).reports.Bounded := by
  unfold State.settle
  split
  · exact (h.arrival n).frame
  · exact h

theorem rawLevel (h : s.reports.Bounded) (n : Nat) (level : Bool) : (s.rawLevel n level).reports.Bounded := by
  unfold State.rawLevel
  split
  · exact h.settle n
  · exact h

theorem configureInput (h : s.reports.Bounded) (n : Nat) (rising : Bool) (filter : Nat) :
    (s.configureInput n rising filter).reports.Bounded := by
  unfold State.configureInput
  dsimp only
  split_ifs <;> exact h.settle n

end Reports.Bounded

/-! ### The events and the requests -/

theorem Effect.reportsBounded {f : State → State} (hf : Effect f) (s : State) (h : s.reports.Bounded) :
    (f s).reports.Bounded := by
  cases hf with
  | frame bs => exact h.frameArrives bs
  | transfer x => exact h.transferEnds x
  | notice => exact h.workNotice
  | receiveTimeout n => exact h.receiveExpires n
  | arrival n => exact h.arrival n
  | index i => exact h.indexPulse i
  | emissionEnd i => exact h.emissionEnds i
  | saturation i => exact h.stalls i
  | rawLevel n level => exact h.rawLevel n level
  | _ => exact h.frame

theorem applyPageAbandon_reportsBounded {s : State} (h : s.reports.Bounded) (n : Nat) :
    (applyPageAbandon n s).state.reports.Bounded := by
  unfold applyPageAbandon
  split_ifs
  · exact h
  · exact h
  · split
    · exact h
    · exact (h.dropRecord _ _ _ _).passHeld

theorem applyPlateCancel_reportsBounded {s : State} (h : s.reports.Bounded) (p : PlateId) :
    (applyPlateCancel p s).state.reports.Bounded := by
  unfold applyPlateCancel
  split
  · exact h
  · split
    · split
      · exact h.frame
      · exact h.retireBuild _ _
    · exact h.frame
    · exact h

theorem applySensorSet_reportsBounded {s : State} (h : s.reports.Bounded) (n e f : Nat) :
    (applySensorSet n e f s).state.reports.Bounded := by
  unfold applySensorSet
  split
  · exact h
  · split
    · exact h
    · exact h.configureInput _ _ _

theorem applyReportMask_reportsBounded {s : State} (h : s.reports.Bounded) (m : Nat) :
    (applyReportMask m s).state.reports.Bounded := by
  unfold applyReportMask
  split
  · exact h
  · exact ⟨h.events, Nat.le_of_not_lt ‹_›, h.seq⟩

/-- RESTART empties the event queue and keeps the mask level and the sequence number (R198). -/
theorem applyRestart_reportsBounded {s : State} (h : s.reports.Bounded) : (applyRestart s).state.reports.Bounded := by
  have hs : ({ s.reports with events := [], slots := ⟨none, none, none, none, none, none, none⟩ } : Reports).Bounded :=
    ⟨Nat.zero_le _, h.mask, h.seq⟩
  exact Reports.Bounded.frame (s := { s with reports := _ }) hs (by simp [applyRestart]) (by simp [applyRestart])
    (by simp [applyRestart])

theorem Applies.reportsBounded {a : State → Answer} (ha : Applies a) (s : State) (h : s.reports.Bounded) :
    (a s).state.reports.Bounded := by
  cases ha with
  | pageAbandon n => exact applyPageAbandon_reportsBounded h n
  | plateCancel p => exact applyPlateCancel_reportsBounded h p
  | sensorSet n e f => exact applySensorSet_reportsBounded h n e f
  | reportMask m => exact applyReportMask_reportsBounded h m
  | restart => exact applyRestart_reportsBounded h
  | query f => exact h
  | _ =>
    simp only [applyPageOpen, applyPageRelease, applyMapLoad, applyMapDelete, applySizeLoad, applyHold, applyLineHold,
      applyReplate, applyPressSet, applyLineAssign, applyPatternLoad, applyProfileLoad, applyCartLayout, applyWindowLoad,
      applyTimingLoad, applyImagerSet, applyStockSet, applyImagerClear, applyLineStart, applyLineStop, applyLineResume]
    repeat' split
    all_goals exact h.frame

end Sys2Proof.Machine
end


-- ==== Sys2Proof/Proofs/LinkBounds.lean ====
section
/-! PROOF. The request queue holds at most 8 requests and the reply list at most 16 replies (R190, R191), and with the
bounds of the Report Unit and of the Line Timebase every step keeps the bounds of chapter 10. -/

namespace Sys2Proof.Machine

/-- The request queue and the reply list are within their bounds (R190, R191). -/
structure Link.Bounded (l : Link) : Prop where
  requests : l.requests.length ≤ 8
  replies : l.replies.length ≤ 16

variable {s t : State} {c : Instr}

namespace Link.Bounded

/-- Changes of anything but the request queue and the reply list. -/
theorem frame (h : s.link.Bounded) (hq : t.link.requests = s.link.requests := by simp)
    (hr : t.link.replies = s.link.replies := by simp) : t.link.Bounded :=
  ⟨hq ▸ h.requests, hr ▸ h.replies⟩

/-- The oldest reply leaves the list when it is sent (R197). -/
theorem pump (h : s.link.Bounded) : s.pump.link.Bounded := by
  refine ⟨by simpa using h.requests, ?_⟩
  unfold State.pump
  split
  · exact h.replies
  · split
    · rename_i r rs hlist
      have hlen := h.replies
      rw [hlist, List.length_cons] at hlen
      exact Nat.le_of_succ_le hlen
    · split <;> exact h.replies

theorem finish (h : s.link.Bounded) : s.finish.link.Bounded := pump h.frame

/-- A reply made at once finds an open place or is dropped (R191). -/
theorem replyAtOnce (h : s.link.Bounded) (tag kind : Nat) (c : Code) : (s.replyAtOnce tag kind c).link.Bounded := by
  unfold State.replyAtOnce
  split
  · rename_i hopen
    have hplaces : s.link.openPlaces ≤ 16 := by unfold Link.openPlaces; split <;> decide
    refine ⟨h.requests, ?_⟩
    rw [State.addReply, List.length_append, List.length_singleton]
    omega
  · exact h

/-- A request joins the queue only below its 8 places (R190). -/
theorem requestArrives (h : s.link.Bounded) (kind tag : Nat) (l : List Byte) :
    (s.requestArrives kind tag l).link.Bounded := by
  unfold State.requestArrives
  split_ifs with _ _ hfull
  · exact h.replyAtOnce _ _ _
  · exact h.replyAtOnce _ _ _
  · exact h.replyAtOnce _ _ _
  · refine ⟨?_, h.replies⟩
    rw [List.length_append, List.length_singleton]
    exact Nat.lt_of_not_le hfull

theorem frameArrives (h : s.link.Bounded) (l : List Byte) : (s.frameArrives l).link.Bounded := by
  unfold State.frameArrives
  split_ifs
  · exact h
  · exact h
  · exact h.frame
  · exact h.requestArrives _ _ _

/-- An event changes the queues by its effect, and by the reply that is sent after it. -/
theorem taken (h : s.link.Bounded) {f : State → State} (hf : (f s).link.Bounded)
    (ht : Machine.taken f s = .next t) : t.link.Bounded := by
  rcases taken_next ht with ⟨-, rfl⟩ | ⟨-, rfl⟩
  · exact h
  · exact hf.finish

/-- A request is applied only while the reply list has room for its reply, and leaves the queue (R191). -/
theorem request (h : s.link.Bounded) {q : TaggedRequest} {a : State → Answer}
    (hq : (a s).state.link.requests = s.link.requests) (hr : (a s).state.link.replies = s.link.replies)
    (ht : Machine.request q a s = .next t) : t.link.Bounded := by
  refine h.taken ?_ ht
  rcases State.handOn_cases q a s with ⟨hroom, heq⟩ | ⟨-, -, heq⟩ | heq <;> rw [heq]
  · refine ⟨?_, ?_⟩
    · simpa [Answer.replied, hq] using Nat.le_succ_of_le h.requests
    · simpa [Answer.replied, State.addReply, hr] using hroom
  · exact ⟨Nat.succ_le_succ (Nat.zero_le 7), h.replies⟩
  · exact h

end Link.Bounded

/-! ### The commands -/

/-- The command of a request hands it to an owner, who leaves the queues as they are. -/
theorem exec_request {q : TaggedRequest} (hc : c.request? = some q) (s : State) :
    ∃ a : State → Answer, exec c s = request q a s ∧ (a s).state.link.requests = s.link.requests ∧
      (a s).state.link.replies = s.link.replies := by
  cases c <;> cases hc <;> exact ⟨_, rfl, by simp, by simp⟩

theorem execTransferEnd_linkBounded (h : s.link.Bounded) (ht : execTransferEnd s = .next t) : t.link.Bounded := by
  unfold execTransferEnd at ht
  split at ht
  · exact h.taken h ht
  · split at ht
    · cases ht
    · exact h.taken h.frame ht

/-- Of the events, a downstream frame alone reaches the queues (R188). -/
theorem exec_event_linkBounded (hc : c.request? = none) (h : s.link.Bounded) (ht : exec c s = .next t) :
    t.link.Bounded := by
  cases c with
  | downstreamFrame bytes => exact h.taken (h.frameArrives bytes) ht
  | transferEnd => exact execTransferEnd_linkBounded h ht
  | resetAsserted =>
    obtain rfl : s.assertReset = t := Host.Outcome.next.inj ht
    exact h
  | powerOnReset l a b =>
    obtain rfl : s.powerOn l a b = t := Host.Outcome.next.inj ht
    rw [State.powerOn, State.attachFound_eq]
    exact ⟨Nat.zero_le _, Nat.zero_le _⟩
  | dieHomeArrival n => exact h.taken (by split <;> exact h.frame) ht
  | cartAttach n => exact h.taken (by split <;> exact h.frame) ht
  | cartDetach n => exact h.taken (by split <;> exact h.frame) ht
  | inactiveEdgeAcceptance n =>
    exact h.taken (f := fun s => if isCartInput n then s else s.departure n) (by split <;> exact h.frame) ht
  | _ => cases hc <;> exact h.taken h.frame ht

theorem exec_linkBounded (h : s.link.Bounded) (ht : exec c s = .next t) : t.link.Bounded := by
  cases hc : c.request? with
  | none => exact exec_event_linkBounded hc h ht
  | some q =>
    obtain ⟨a, ha, hrequests, hreplies⟩ := exec_request hc s
    exact h.request hrequests hreplies (ha ▸ ht)

theorem step_linkBounded (h : s.link.Bounded) (ht : step s = .next t) : t.link.Bounded := by
  unfold step at ht
  split at ht
  · unfold idle at ht
    split at ht
    · cases ht; exact h
    · split at ht
      · cases ht; exact h.frame
      · exact exec_linkBounded h ht
  · refine exec_linkBounded ?_ ht
    exact h

/-! ### The Report Unit and the Line Timebase -/

/-- The Line Timebase counts modulo 2 to the power 32 (R94). -/
theorem State.tick_time_lt (s : State) : s.tick.clock.time < 4294967296 := Nat.mod_lt _ (by decide)

theorem State.referenceTick_time_lt (h : s.clock.time < 4294967296) : s.referenceTick.clock.time < 4294967296 := by
  unfold State.referenceTick
  split
  · exact State.tick_time_lt _
  · exact h

theorem Effect.time_lt {f : State → State} (hf : Effect f) (h : s.clock.time < 4294967296) :
    (f s).clock.time < 4294967296 := by
  cases hf with
  | tick => exact State.tick_time_lt _
  | _ => simpa using h

theorem Applies.clock {a : State → Answer} (ha : Applies a) (s : State) : (a s).state.clock = s.clock := by
  cases ha <;> simp

/-- The bounds of the Report Unit and of the Line Timebase. -/
def ReportsAndTime (s : State) : Prop := s.reports.Bounded ∧ s.clock.time < 4294967296

theorem State.powerOn_reportsAndTime (s : State) (l : BitVec 32) (a b : Phase) : ReportsAndTime (s.powerOn l a b) := by
  rw [State.powerOn, State.attachFound_eq]
  exact ⟨⟨Nat.zero_le _, Nat.zero_le _, Nat.zero_lt_succ _⟩, Nat.zero_lt_succ _⟩

theorem step_reportsAndTime (h : ReportsAndTime s) (ht : step s = .next t) : ReportsAndTime t :=
  step_keeps
    (pending := fun _ _ h => h)
    (requests := fun _ _ h => h)
    (replies := fun _ _ h => h)
    (pump := fun _ h => ⟨h.1.pump, by simpa using h.2⟩)
    (pass := fun _ h => ⟨h.1.frame, by simpa using h.2⟩)
    (tick := fun _ h => ⟨h.1.frame, State.referenceTick_time_lt h.2⟩)
    (asserted := fun _ h => h)
    (power := fun s l a b _ => s.powerOn_reportsAndTime l a b)
    (effect := fun _ hf s h => ⟨hf.reportsBounded s h.1, hf.time_lt h.2⟩)
    (applies := fun _ ha s h => ⟨ha.reportsBounded s h.1, (ha.clock s).symm ▸ h.2⟩)
    h ht

/-- Settles O8: the queues by `step_linkBounded`, the Report Unit and the Line Timebase by `step_reportsAndTime`. -/
theorem stepKeepsLinkBounds : Obligations.StepKeepsLinkBounds := by
  rintro s t ⟨hrequests, hreplies, hevents, hmask, hseq, htime⟩ ht
  obtain ⟨hrequests', hreplies'⟩ := step_linkBounded ⟨hrequests, hreplies⟩ ht
  obtain ⟨⟨hevents', hmask', hseq'⟩, htime'⟩ := step_reportsAndTime ⟨⟨hevents, hmask, hseq⟩, htime⟩ ht
  exact ⟨hrequests', hreplies', hevents', hmask', hseq', htime'⟩

end Sys2Proof.Machine
end


-- ==== Sys2Proof/Proofs/Sensors.lean ====
section
/-! PROOF. Raw levels, SENSOR SET, inactive edges, the tick of the Line Timebase, and RESET_N (chapter 5). -/

namespace Sys2Proof.Machine

/-! ### Inputs (R96, R97) -/

theorem State.input_eq {s : State} {n : Nat} {x : Input} (h : s.inputs[n]? = some x) : s.input n = x := by
  rw [State.input, List.getD_eq_getElem?_getD, h, Option.getD_some]

theorem isCartInput_iff (n : Nat) : isCartInput n = true ↔ 24 ≤ n ∧ n ≤ 29 := by
  rw [isCartInput, Bool.and_eq_true, decide_eq_true_eq, decide_eq_true_eq]

theorem State.overdue_iff {s : State} {n : Nat} {x : Input} {c : PendingChange} (hx : s.inputs[n]? = some x)
    (hc : x.change = some c) :
    s.overdue n = true ↔ c.start + x.filter * 48000 < s.clock.ref ∧ c.notBefore < s.clock.ref := by
  rw [State.overdue, State.input_eq hx, hc]
  exact decide_eq_true_iff.trans Nat.max_lt

/-- A raw level change is judged on the input as the acceptance that is overdue leaves it (log 19). -/
theorem State.rawLevel_eq {s : State} {n : Nat} {x : Input} (hn : n < 32) (hx : (s.settle n).inputs[n]? = some x)
    (level : Bool) :
    s.rawLevel n level =
      { s.settle n with inputs := (s.settle n).inputs.set n (x.sampled level s.clock.ref) } := by
  have hclock : (s.settle n).clock = s.clock := by simp
  rw [State.rawLevel, if_pos hn]
  dsimp only
  rw [State.input_eq hx, hclock]

/-! ### SENSOR SET (R100) -/

theorem applySensorSet_refused {n edge filter : Nat} (h : 31 < n ∨ 1 < edge ∨ 15 < filter) (s : State) :
    applySensorSet n edge filter s = refuse .range s := by
  by_cases hedge : 1 < edge
  · rw [applySensorSet, firstOf_none hedge]
  · have hrange : (!(decide (n ≤ 31) && decide (filter ≤ 15))) = true := by
      simp only [Bool.not_eq_true', Bool.and_eq_false_iff, decide_eq_false_iff_not]
      omega
    rw [applySensorSet, firstOf_le (Nat.le_of_not_lt hedge)]
    exact if_pos hrange

theorem applySensorSet_accepted {n edge filter : Nat} (hn : n ≤ 31) (hedge : edge ≤ 1) (hfilter : filter ≤ 15)
    (s : State) : applySensorSet n edge filter s = accept (s.configureInput n (decide (edge = 0)) filter) := by
  rw [applySensorSet, firstOf_le hedge]
  exact if_neg (by simp [hn, hfilter])

/-- A CART input attaches or detaches its cart by the filtered level and the new edge select (R99). -/
theorem State.judgeCart_eq (u : State) (n : Nat) (y : Input) :
    (if y.active then u.attachCart n else u.detachCart n) =
      let cart := u.sorter.carts.getD n ⟨none, false, []⟩
      { u with sorter := { u.sorter with carts := u.sorter.carts.set n (
        if y.filtered = y.rising then { cart with present := true }
        else { cart with present := false, occupancy := [] }) } } := by
  by_cases hactive : y.filtered = y.rising
  · dsimp only
    rw [if_pos (show y.active = true from beq_iff_eq.mpr hactive), if_pos hactive]
    rfl
  · dsimp only
    rw [if_neg (show ¬ y.active = true from mt beq_iff_eq.mp hactive), if_neg hactive]
    rfl

/-- The input takes its edge select and filter time; a CART input whose edge select changed is judged again. -/
theorem State.configureInput_eq {s : State} {n : Nat} {x : Input} (hx : (s.settle n).inputs[n]? = some x)
    (rising : Bool) (filter : Nat) :
    s.configureInput n rising filter =
      let y := x.configured rising filter s.clock.ref
      let u : State := { s.settle n with inputs := (s.settle n).inputs.set n y }
      if 24 ≤ n ∧ n ≤ 29 ∧ y.rising ≠ x.rising then
        if y.active then u.attachCart (n - 24) else u.detachCart (n - 24)
      else u := by
  have hclock : (s.settle n).clock = s.clock := by simp
  unfold State.configureInput
  dsimp only
  rw [State.input_eq hx, hclock]
  refine if_congr ?_ rfl rfl
  rw [isCartInput_iff, and_assoc]
  exact and_congr_right' (and_congr_right' ne_comm)

/-- Settles O58: each event by what it does to its input, the tick by its definition. -/
theorem sensorsAndTimebase : Obligations.SensorsAndTimebase := by
  refine ⟨?_, ?_, ?_, ?_⟩
  · intro n level x s hrun hn t
    refine ⟨fun c hx hc => State.overdue_iff hx hc, fun hx => ?_⟩
    show taken (State.rawLevel n level) s = _
    rw [taken_running _ _ hrun, State.rawLevel_eq hn hx]
    rfl
  · intro tag n edge filter x s r t y u cart hready
    refine ⟨fun h => request_refused hready (applySensorSet_refused h s), fun hn hedge hfilter hx => ?_⟩
    have hy : x.configured (decide (edge = 0)) filter s.clock.ref = y := by
      simp only [Input.configured, y]
      cases x.change <;> rfl
    have hconfigured : s.configureInput n (decide (edge = 0)) filter = if 24 ≤ n ∧ n ≤ 29 ∧ y.rising ≠ x.rising then
        if y.active then u.attachCart (n - 24) else u.detachCart (n - 24)
      else u := by
      rw [State.configureInput_eq hx, hy]
      rfl
    rw [State.judgeCart_eq] at hconfigured
    show request r (applySensorSet n edge filter) s = _
    rw [request_ready hready, applySensorSet_accepted hn hedge hfilter, hconfigured,
      ← apply_ite fun v : State => v.answering r .ok []]
    rfl
  · intro n x p s hrun hacc hedge
    show taken (fun s => if isCartInput n then s else s.departure n) s = _
    rw [taken_running _ _ hrun]
    by_cases hcart : isCartInput n = true
    · rw [if_pos hcart, if_pos ((isCartInput_iff n).mp hcart)]
    · rw [if_neg hcart, if_neg (mt (isCartInput_iff n).mpr hcart), State.departure_eq hacc hedge, if_neg hcart]
  · intro s hrun n later
    exact taken_running _ _ hrun

/-! ### RESET_N (R104) -/

theorem State.beamLane_reset {s : State} (h : s.resetAsserted = true) (i : Imager) (b : Nat) : s.beamLane i b = false := by
  unfold State.beamLane
  dsimp only
  split
  · simp [h]
  · rfl

/-- While reset is asserted every command but the two of reset is disregarded (log 13). -/
theorem exec_reset {s : State} (h : s.resetAsserted = true) {c : Instr} (hreset : c ≠ .resetAsserted)
    (hpower : ∀ l p q, c ≠ .powerOnReset l p q) : exec c s = .next s := by
  cases c with
  | resetAsserted => exact absurd rfl hreset
  | powerOnReset l p q => exact absurd rfl (hpower l p q)
  | transferEnd =>
    show execTransferEnd s = .next s
    unfold execTransferEnd
    split
    · exact taken_reset _ _ h
    · rw [h]
      exact taken_reset _ _ h
  | inactiveEdgeAcceptance n => exact taken_reset (fun s => if isCartInput n then s else s.departure n) _ h
  | _ => exact taken_reset _ _ h

/-- Settles O4: the outputs by the definition, the lanes and the commands by the flag. -/
theorem resetAsserted : Obligations.ResetAsserted := fun _ =>
  ⟨rfl, fun h => ⟨State.beamLane_reset h, fun _ => exec_reset h⟩⟩

end Sys2Proof.Machine
end


-- ==== Sys2Proof/Proofs/LineExpiries.lean ====
section
/-! PROOF. Phantoms at the Line Tracker's sensors, the expiry of windows (chapter 7), the end of a carriage pulse and the
saturation of a period counter (chapter 6). -/

namespace Sys2Proof.Machine

variable {s : State} {sensor : LineSensor} {it : Item} {w : Window}

/-! ### Phantoms (R141) -/

/-- An arrival of an accepted active edge is judged by the Line Tracker (R98, R141). -/
theorem lineSensorArrival_judged {x : Input} {p : PendingChange} (hrun : s.resetAsserted = false)
    (hacc : accepting s (sensorInput sensor) x p) (hedge : x.raw = x.rising) :
    exec (.lineSensorArrival sensor) s =
      .next ((s.accepted (sensorInput sensor) x).lineArrival sensor (stampOf x p)).finish := by
  show taken (State.arrival (sensorInput sensor)) s = _
  rw [taken_running _ _ hrun, State.arrival_eq hacc hedge, State.takeArrival, lineSensorAt_sensorInput]

theorem State.lineArrival_unexpected (hat : s.line.windowAt sensor = none) (t : Nat) :
    s.lineArrival sensor t = s.phantom sensor none t := by
  rw [State.lineArrival, hat]

theorem State.lineArrival_early {t : Nat} (hat : s.line.windowAt sensor = some it) (hw : it.window = some w)
    (hmet : ¬ w.minMet t = true) : s.lineArrival sensor t = s.phantom sensor (some it.order) t := by
  rw [State.lineArrival, hat]
  dsimp only
  rw [hw]
  exact if_neg hmet

/-- A PHANTOM is a halt cause, and in STOPPED the LINE condition alone (R147, log 39). -/
theorem State.phantom_eq (sensor : LineSensor) (order : Option Nat) (t : Nat) (s : State) :
    s.phantom sensor order t =
      if s.line.state = .stopped then
        s.raise .line (.line ⟨⟨.phantom, none, some (sensorInput sensor), none, t, 0, none⟩, .stopped⟩)
      else s.haltLine .phantom order (some (sensorInput sensor)) none := by
  unfold State.phantom
  cases hstate : s.line.state <;> rfl

/-! ### Expired windows (R135, R146) -/

theorem notBefore_iff (t d : Nat) : notBefore t d = true ↔ reached t d := by
  rw [notBefore, decide_eq_true_iff]
  rfl

theorem dueAt_iff (now : Nat) (d : Option Nat) : dueAt now d = true ↔ ∃ t, d = some t ∧ reached now t := by
  cases d with
  | none => simp [dueAt]
  | some t => simp [dueAt, notBefore_iff]

theorem State.windowExpires_none (hat : s.line.windowAt sensor = none) : s.windowExpires sensor = s := by
  rw [State.windowExpires, State.expiredAt, hat]

theorem State.expiredAt_eq (hat : s.line.windowAt sensor = some it) (hw : it.window = some w) :
    s.expiredAt sensor = if !w.frozen && dueAt s.now w.deadline then some (it, w) else none := by
  rw [State.expiredAt, hat]
  dsimp only
  rw [hw]

/-- Settles O46: the arrival by the window that is there, the expiry by `State.expiredAt_eq`. -/
theorem phantomsAndExpiredWindows : Obligations.PhantomsAndExpiredWindows := by
  intro sensor s hrun here n phantom
  have hphantom : ∀ stamp order x, (s.accepted n x).phantom sensor order stamp = phantom stamp order (s.accepted n x) :=
    fun stamp order x => State.phantom_eq sensor order stamp (s.accepted n x)
  have hexpiry : exec (.windowExpiry sensor) s = .next (s.windowExpires sensor).finish := taken_running _ _ hrun
  refine ⟨fun x p hacc hedge hat => ?_, fun x p it w hacc hedge hat hw hearly helapsed => ?_,
    fun it w d hat hw hfrozen hd hreached => ?_, fun hat => ?_, fun it w hat hw hfrozen => ?_⟩
  · have hat' : (s.accepted n x).line.windowAt sensor = none := hat
    rw [lineSensorArrival_judged hrun hacc hedge, State.lineArrival_unexpected hat', hphantom]
  · have hmet : ¬ w.minMet (stampOf x p) = true := fun h => ((Window.minMet_iff _ _).mp h).elim hearly helapsed
    have hat' : (s.accepted n x).line.windowAt sensor = some it := hat
    rw [lineSensorArrival_judged hrun hacc hedge, State.lineArrival_early hat' hw hmet, hphantom]
  · have hdue : (!w.frozen && dueAt s.now w.deadline) = true := by
      rw [hfrozen, (dueAt_iff s.now _).mpr ⟨d, hd, hreached⟩]
      rfl
    rw [hexpiry, State.windowExpires, State.expiredAt_eq hat hw, if_pos hdue]
  · rw [hexpiry, State.windowExpires_none hat]
  · rw [hexpiry, State.windowExpires, State.expiredAt_eq hat hw, hfrozen]
    rfl

/-! ### The carriage pulse and the period counter (R102, R118) -/

/-- Settles O40: both events are their conditions' choice between an effect and none. -/
theorem carriagePulseAndSaturation : Obligations.CarriagePulseAndSaturation :=
  fun _ _ hrun => ⟨taken_running _ _ hrun, taken_running _ _ hrun⟩

end Sys2Proof.Machine
end


-- ==== Sys2Proof/Proofs/IdleSteps.lean ====
section
/-! PROOF. The block with no command waiting: the events that are due in their order, else one reference tick (log 1). -/

namespace Sys2Proof.Machine

/-! ### The passing of time (R94, R108) -/

theorem Clock.toTick_eq_one_iff (c : Clock) : c.toTick = 1 ↔ (c.ref + 1) % 48000 = 0 := by
  rw [Clock.toTick, Config.ticksPerMs]
  omega

theorem State.referenceTick_clock (s : State) : s.referenceTick.clock.ref = s.clock.ref + 1 ∧
    s.referenceTick.clock.time =
      if (s.clock.ref + 1) % 48000 = 0 then (s.clock.time + 1) % 4294967296 else s.clock.time := by
  unfold State.referenceTick
  simp only [Clock.toTick_eq_one_iff]
  split <;> exact ⟨rfl, rfl⟩

theorem State.referenceTick_period (s : State) (i : Imager) :
    (s.referenceTick.chan.get i).drum.period = min ((s.chan.get i).drum.period + 1) 16777215 := by
  unfold State.referenceTick
  split <;> cases i <;> rfl

theorem step_idle_reset {s : State} (hempty : s.pending = []) (h : s.resetAsserted = true) : step s = .next s := by
  rw [step, hempty]
  exact if_pos h

theorem step_idle_running {s : State} (hempty : s.pending = []) (h : s.resetAsserted = false) :
    step s = match s.due with
      | [] => .next s.referenceTick
      | c :: _ => exec c s := by
  rw [step, hempty]
  exact if_neg (by rw [h]; decide)

/-! ### Events with their conditions -/

/-- The events of a list whose conditions hold, in its order. -/
def dueOf (l : List (Instr × Bool)) : List Instr := (l.filter Prod.snd).map Prod.fst

theorem dueOf_append (l m : List (Instr × Bool)) : dueOf (l ++ m) = dueOf l ++ dueOf m := by
  rw [dueOf, List.filter_append, List.map_append]
  rfl

theorem dueOf_ite (p : Prop) [Decidable p] (c : Instr) : (if p then [c] else []) = dueOf [(c, decide p)] := by
  by_cases h : p
  · rw [if_pos h, decide_eq_true h]
    rfl
  · rw [if_neg h, decide_eq_false h]
    rfl

theorem dueOf_ite_not (b : Bool) (c : Instr) : (if b then [] else [c]) = dueOf [(c, !b)] := by
  cases b <;> rfl

theorem dueOf_map {α : Type} (f : α → Instr) (p : α → Bool) (l : List α) :
    (l.filter p).map f = dueOf (l.map fun x => (f x, p x)) := by
  rw [dueOf, List.filter_map, List.map_map]
  rfl

/-! ### The dispatch and the steps of the line -/

variable {s : State}

theorem State.dispatchDue_eq (s : State) (i : Imager) : s.dispatchDue i =
    (decide ((s.chan.get i).seq.state = .idle) && s.plates.queue.any fun n => s.eligible i n) := by
  rw [State.dispatchDue, State.firstEligible, List.isSome_find?]
  rfl

theorem Line.stationItem_eq (l : Line) (st : Station) :
    l.stationItem st = l.items.find? fun it => decide (it.zone = st.zone) := List.head?_filter

theorem Line.inZone_isEmpty (l : Line) (z : Zone) :
    (l.inZone z).isEmpty = true ↔ (l.items.find? fun it => decide (it.zone = z)) = none := by
  rw [List.isEmpty_iff, Line.inZone, List.filter_eq_nil_iff, List.find?_eq_none]

theorem Line.gateReady_isSome (l : Line) (st : Station) : (l.gateReady st).isSome =
    (decide (l.state = .running ∧ (l.items.find? fun it => decide (it.zone = st.zone)) = none) &&
      (l.items.find? fun it => decide (it.zone = st.above)).any fun it => decide (it.location = .atGate)) := by
  have hhead : (l.inZone st.above).head? = l.items.find? fun it => decide (it.zone = st.above) := List.head?_filter
  rw [Line.gateReady, ← hhead]
  simp only [Line.inZone_isEmpty]
  split_ifs with h
  · rw [decide_eq_true h]
    cases l.inZone st.above with
    | nil => rfl
    | cons it rest => by_cases hgate : it.location = .atGate <;> simp [hgate]
  · rw [decide_eq_false h]
    rfl

theorem Line.noticed_isSome (l : Line) (st : Station) : (l.noticed st).isSome =
    (l.items.find? fun it => decide (it.zone = st.zone)).any fun it =>
      decide (it.location = .inStation ∧ it.work = some .working ∧ it.entryTime.isSome = true) := by
  rw [Line.noticed, Line.stationItem_eq]
  cases l.items.find? fun it => decide (it.zone = st.zone) with
  | none => rfl
  | some it => exact Bool.eq_iff_iff.mpr (Option.isSome_ite.trans decide_eq_true_iff.symm)

theorem Line.hasRoom_iff (l : Line) (z : Zone) :
    l.hasRoom z = true ↔ (l.items.filter fun it => decide (it.zone = z)).length < z.capacity := decide_eq_true_iff

theorem Line.releaseReady_isSome {st : Station} {below : Zone} (hbelow : belowStation st = some below) (l : Line) :
    (l.releaseReady st).isSome =
      (l.items.find? fun it => decide (it.zone = st.zone)).any fun it =>
        decide (l.state = .running ∧ it.location = .inStation ∧ it.work = some .done ∧
          (l.items.filter fun it => decide (it.zone = below)).length < below.capacity) := by
  rw [Line.releaseReady, hbelow, Line.stationItem_eq]
  cases l.items.find? fun it => decide (it.zone = st.zone) with
  | none => rfl
  | some it =>
    simp only [Line.hasRoom_iff]
    exact Bool.eq_iff_iff.mpr (Option.isSome_ite.trans decide_eq_true_iff.symm)

theorem Line.grantReady_eq (l : Line) : l.grantReady =
    decide (l.state = .running ∧ (l.items.filter fun it => decide (it.zone = .transfer)).length < 4 ∧
      (l.merge.lastGrant = none ∨ l.merge.spacingOver = true) ∧ l.merge.requests ≠ []) := by
  have hroom := l.hasRoom_iff .transfer
  rw [Bool.eq_iff_iff, decide_eq_true_iff]
  simp [Line.grantReady, Merge.spaced, hroom, Zone.capacity, and_assoc]

/-- An entry notice that waits is given in RUNNING to an IDLE controller (R143). -/
theorem State.entryDue_eq (p : Prop) [Decidable p] (s : State) (st : Station) :
    decide (s.line.state = .running ∧ p ∧ (s.line.noticed st).isSome = true) = (decide p &&
      (s.line.items.find? fun it => decide (it.zone = st.zone)).any fun it =>
        decide (s.line.state = .running ∧ it.location = .inStation ∧ it.work = some .working ∧
          it.entryTime.isSome = true)) := by
  rw [Line.noticed_isSome]
  cases s.line.items.find? fun it => decide (it.zone = st.zone) with
  | none => simp
  | some it => simp [and_left_comm]

/-! ### The drum (R102, R109, R118) -/

theorem Channel.emissionDue_eq (c : Channel) :
    decide (c.seq.state = .exposing ∧ c.seq.emissionPending = true ∧ c.emissionOver = true) =
      c.composer.job.any fun j => decide (c.seq.state = .exposing ∧ c.seq.emissionPending = true ∧
        (c.settings.g + j.x) * (2 * (c.settings.d + 1)) ≤ c.drum.period) := by
  cases hj : c.composer.job with
  | none => simp [Channel.emissionOver, hj]
  | some j => simp only [Channel.emissionOver_iff hj, Option.any_some]

/-! ### The inputs (R97 to R99) -/

theorem Input.mature_eq (x : Input) (ref : Nat) : x.mature ref =
    x.change.any fun c => decide (c.start + x.filter * 48000 ≤ ref ∧ c.notBefore ≤ ref) := by
  rw [Input.mature]
  cases x.change with
  | none => rfl
  | some c => exact decide_eq_decide.mpr Nat.max_le

theorem lineSensorAt_beyond {n : Nat} (h : 11 ≤ n) : lineSensorAt n = none := by
  match n with
  | n + 11 => rfl

theorem inputEvent_eq (n : Nat) (active : Bool) : inputEvent n active =
    if 24 ≤ n ∧ n ≤ 29 then (if active then .cartAttach (n - 24) else .cartDetach (n - 24))
    else if active = false then .inactiveEdgeAcceptance n
    else if n = 0 then .clampArrival .a
    else if n = 1 then .clampArrival .b
    else if n < 11 then .lineSensorArrival ([.exitA, .exitB, .tg, .ps, .lg, .bs, .og, .ss, .sd].getD (n - 2) .sd)
    else if n < 23 then .dieHomeArrival (n - 11)
    else if n = 23 then .bendDoneArrival
    else .exitEmptied (if n = 30 then .reject else .remake) := by
  by_cases hlow : n < 11
  · interval_cases n <;> cases active <;> rfl
  · have hcart : (isCartInput n = true) = (24 ≤ n ∧ n ≤ 29) := propext (isCartInput_iff n)
    have h0 : n ≠ 0 := by omega
    have h1 : n ≠ 1 := by omega
    unfold inputEvent bendInput
    rw [lineSensorAt_beyond (Nat.le_of_not_lt hlow)]
    simp only [hcart, hlow, h0, h1, if_false, Bool.not_eq_true']
    split_ifs <;> rfl

/-! ### The expiries (R95) -/

theorem dueAt_eq (now : Nat) (d : Option Nat) : dueAt now d = d.any fun t => decide (reached now t) := by
  cases d with
  | none => rfl
  | some t =>
    rw [Bool.eq_iff_iff, Option.any_some, decide_eq_true_iff]
    exact notBefore_iff now t

theorem State.expiredAt_isSome (s : State) (x : LineSensor) : (s.expiredAt x).isSome =
    (s.line.items.find? fun it => it.window.any fun w => decide (w.sensor = x)).any fun it =>
      it.window.any fun w => decide (w.frozen = false) && dueAt s.now w.deadline := by
  have hat : s.line.windowAt x = s.line.items.find? fun it => it.window.any fun w => decide (w.sensor = x) := by
    refine congrArg (fun p : Item → Bool => s.line.items.find? p) (funext fun it => ?_)
    cases it.window <;> rfl
  rw [← hat]
  cases hit : s.line.windowAt x with
  | none => rw [State.expiredAt, hit]; rfl
  | some it =>
    rw [Option.any_some]
    cases hw : it.window with
    | none =>
      rw [State.expiredAt, hit]
      dsimp only
      rw [hw]
      rfl
    | some w =>
      rw [State.expiredAt_eq hit hw, Option.any_some, Bool.decide_eq_false]
      exact Bool.eq_iff_iff.mpr Option.isSome_ite

/-! ### The order -/

/-- Settles O2: the steps by `step_idle_running`; the due events are written as `dueOf` of one list, whose conditions are
those of the statement one by one. -/
theorem idleStepTakesDueEventOrTick : Obligations.IdleStepTakesDueEventOrTick := by
  refine ⟨fun s hempty => ⟨step_idle_reset hempty, fun hrun c cs hdue => ?_, fun hrun hdue => ?_⟩, ?_⟩
  · rw [step_idle_running hempty hrun, hdue]
  · obtain ⟨href, htime⟩ := s.referenceTick_clock
    refine ⟨s.referenceTick, ?_, href, htime, s.referenceTick_period⟩
    rw [step_idle_running hempty hrun, hdue]
  · intro s now l running past inZone holds gate done notice drum input order request
    have hpast : ∀ d, dueAt s.now d = past d := fun d => dueAt_eq s.now d
    have hinput : (fun n => (inputEvent n (s.input n).activeEdge, (s.input n).mature s.clock.ref)) = input :=
      funext fun n => by rw [inputEvent_eq, Input.mature_eq]; rfl
    have hnotices : (!s.store.notices.isEmpty) = decide (s.store.notices ≠ []) := by cases s.store.notices <;> rfl
    show s.due = dueOf order ++ request
    simp only [State.due, State.dueSteps, State.dueDrum, State.dueInputs, State.dueExpiries, dueOf_ite, dueOf_ite_not,
      dueOf_map, ← dueOf_append, hinput]
    refine congrArg₂ (fun l m => dueOf l ++ m) ?_ rfl
    simp only [List.map_cons, List.map_nil, List.cons_append, List.nil_append, List.append_assoc,
      State.dispatchDue_eq, Line.gateReady_isSome, Line.releaseReady_isSome (below := .link) (st := .punch) rfl,
      Line.releaseReady_isSome (below := .outfeed) (st := .bend) rfl, Line.grantReady_eq, State.entryDue_eq,
      Channel.emissionDue_eq, State.expiredAt_isSome, hpast, order, hnotices, Bool.decide_eq_true, Bool.decide_eq_false,
      Bool.decide_and (s.punch.state = .stroking), Bool.decide_and (s.bend.state = .bending), List.any_cons, List.any_nil,
      Bool.or_false]
    rfl

end Sys2Proof.Machine
end


-- ==== Sys2Proof/Proofs/DrumTiming.lean ====
section
/-! PROOF. The Drum Timing Unit and the Imager Sequencer: the samples of the phase lines, the judgment of a revolution,
the CLAMP arrival, the index, and the requests IMAGER SET and IMAGER CLEAR (chapter 6). -/

namespace Sys2Proof.Machine

/-! ### The phase lines (R106) -/

/-- The place of a pair in the forward order 00, 10, 11, 01 (R106). -/
def phasePlace (a : Phase) : Nat := if a.p then (if a.q then 2 else 1) else (if a.q then 3 else 0)

theorem phasePlace_injective : Function.Injective phasePlace := by
  have hpairs : ∀ p q p' q' : Bool, phasePlace ⟨p, q⟩ = phasePlace ⟨p', q'⟩ → p = p' ∧ q = q' := by decide
  rintro ⟨p, q⟩ ⟨p', q'⟩ h
  obtain ⟨rfl, rfl⟩ := hpairs p q p' q' h
  rfl

theorem phasePlace_nextPhase (a : Phase) : phasePlace (nextPhase a) = (phasePlace a + 1) % 4 := by
  have hpairs : ∀ p q : Bool, phasePlace (nextPhase ⟨p, q⟩) = (phasePlace ⟨p, q⟩ + 1) % 4 := by decide
  exact hpairs a.p a.q

theorem nextPhase_eq_iff (a b : Phase) : nextPhase a = b ↔ phasePlace b = (phasePlace a + 1) % 4 := by
  rw [← phasePlace_nextPhase, phasePlace_injective.eq_iff, eq_comm]

theorem direction_eq (old new : Phase) : direction old new =
    if phasePlace new = (phasePlace old + 1) % 4 then some true
    else if phasePlace old = (phasePlace new + 1) % 4 then some false
    else none :=
  if_congr (nextPhase_eq_iff old new) rfl (if_congr (nextPhase_eq_iff new old) rfl rfl)

/-- Multiplier 1 counts the transitions between 00 and 10, which stand at the places 0 and 1 (Table 6.1). -/
theorem firstQuarter_iff (old new : Phase) :
    (old = ⟨false, false⟩ ∧ new = ⟨true, false⟩) ∨ (old = ⟨true, false⟩ ∧ new = ⟨false, false⟩) ↔
      phasePlace old + phasePlace new = 1 := by
  have hzero : ∀ a, phasePlace a = 0 ↔ a = ⟨false, false⟩ := fun a => phasePlace_injective.eq_iff (b := ⟨false, false⟩)
  have hone : ∀ a, phasePlace a = 1 ↔ a = ⟨true, false⟩ := fun a => phasePlace_injective.eq_iff (b := ⟨true, false⟩)
  rw [← hzero, ← hone, ← hone, ← hzero]
  omega

theorem countedTransition_eq (mult : Nat) (old new : Phase) : countedTransition mult old new =
    if mult = 4 then true
    else if mult = 2 then decide (old.p ≠ new.p)
    else decide (phasePlace old + phasePlace new = 1) := by
  unfold countedTransition
  split
  · rfl
  · rfl
  · rename_i hfour htwo
    rw [if_neg hfour, if_neg htwo]
    exact decide_eq_decide.mpr (firstQuarter_iff old new)

/-- A sample of the phase lines, `counted` saying whether the multiplier counts the transition (R106, R107). -/
theorem Drum.sample_eq {mult : Nat} {new : Phase} {d : Drum} {counted : Bool}
    (hcounted : countedTransition mult d.phase new = counted) :
    d.sample mult new =
      if phasePlace new = (phasePlace d.phase + 1) % 4 then
        { d with phase := new, position := if counted then (d.position + 1) % 16777216 else d.position }
      else if phasePlace d.phase = (phasePlace new + 1) % 4 then
        { d with
          phase := new, reverse := true,
          position := if counted then (d.position + 16777215) % 16777216 else d.position }
      else { d with phase := new } := by
  have hback : d.position + Config.counterModulus - 1 = d.position + 16777215 :=
    Nat.add_sub_assoc (by decide) _
  unfold Drum.sample
  rw [direction_eq, hcounted, hback, Config.counterModulus]
  by_cases hforward : phasePlace new = (phasePlace d.phase + 1) % 4
  · simp only [if_pos hforward]
  · by_cases hreverse : phasePlace d.phase = (phasePlace new + 1) % 4
    · simp only [if_neg hforward, if_pos hreverse]
    · simp only [if_neg hforward, if_neg hreverse]

/-- Settles O42: the transition by `Drum.sample_eq`, the multiplier by `countedTransition_eq`. -/
theorem encoderTransition : Obligations.EncoderTransition := by
  intro i new s hrun c d place counted drum
  have hdrum : d.sample c.settings.mult new = drum := Drum.sample_eq (countedTransition_eq _ _ _)
  show taken (State.encoder i new) s = _
  rw [taken_running _ _ hrun, ← hdrum]
  rfl

/-! ### The judgment of a revolution (R108, R110, R111) -/

theorem Settings.periodOk_iff (t : Settings) (latch : Nat) :
    t.periodOk latch = true ↔ ¬ (latch = 16777215 ∨ latch < t.e - t.wt ∨ t.e + t.wt < latch) := by
  rw [Settings.periodOk, Bool.and_eq_true, Bool.and_eq_true, decide_eq_true_eq, decide_eq_true_eq, decide_eq_true_eq,
    not_or, not_or, Nat.not_lt, Nat.not_lt, and_assoc]
  exact Iff.rfl

theorem judge_eq (t : Settings) (first reverse : Bool) (net latch : Nat) :
    judge t first reverse net latch =
      if first = true then some .first
      else if reverse = true then some .reverse
      else if net ≠ t.c then some .count
      else if latch = 16777215 ∨ latch < t.e - t.wt ∨ t.e + t.wt < latch then some .period
      else none := by
  have hperiod : (if t.periodOk latch = true then none else some Reason.period) =
      if latch = 16777215 ∨ latch < t.e - t.wt ∨ t.e + t.wt < latch then some .period else none := by
    rw [if_congr (t.periodOk_iff latch) rfl rfl, ite_not]
  unfold judge
  rw [hperiod]

/-! ### A CLAMP arrival (R114, R116) -/

section
variable {s : State} {i : Imager}

/-- A CLAMP arrival in LOADING: LOAD and the load deadline go, and the retired flag decides what follows (R114). -/
theorem State.clamped_loading (hstate : (s.chan.get i).seq.state = .loading) :
    s.clamped i =
      let c := s.chan.get i
      let t : State := { s with chan := s.chan.set i { c with
        out := { c.out with load := false }, seq := { c.seq with loadDeadline := none } } }
      if c.seq.retired = true then t.endExposure i .stopped else t.enterSpinup i := by
  refine (if_pos hstate).trans ?_
  cases i <;> rfl

theorem State.clamped_elsewhere (hstate : (s.chan.get i).seq.state ≠ .loading) : s.clamped i = s := if_neg hstate

/-- The accepted active edge of a CLAMP input is its imager's CLAMP arrival (R98, Table 5.1). -/
theorem clampArrival_taken {x : Input} {p : PendingChange} (hrun : s.resetAsserted = false)
    (hacc : accepting s (clampInput i) x p) (hedge : x.raw = x.rising) :
    exec (.clampArrival i) s = .next ((s.accepted (clampInput i) x).clamped i).finish := by
  have howner : ∀ (n : Nat) (u : State), u.takeArrival (clampInput i) n = u.clamped i := by
    cases i <;> exact fun _ _ => rfl
  show taken (State.arrival (clampInput i)) s = _
  rw [taken_running _ _ hrun, State.arrival_eq hacc hedge, howner]

end

/-- Settles O35: the arrival by `clampArrival_taken`, its effect by the imager's state and the retired flag. -/
theorem clampArrival : Obligations.ClampArrival := by
  intro i x p s hrun hacc hedge t c
  have hexec : ∀ u, t.clamped i = u → exec (.clampArrival i) s = .next u.finish := fun u hu => by
    rw [← hu]
    exact clampArrival_taken hrun hacc hedge
  refine ⟨fun hstate => hexec _ (State.clamped_elsewhere hstate), fun hstate hretired => hexec _ ?_,
    fun hstate hretired => hexec _ ?_⟩
  · have hretired' : ¬ (t.chan.get i).seq.retired = true := Bool.eq_false_iff.mp hretired
    rw [State.clamped_loading (s := t) hstate, if_neg hretired']
    cases i <;> rfl
  · rw [State.clamped_loading (s := t) hstate]
    exact if_pos hretired

/-! ### An index in SPINUP and in EXPOSING (R116, R118) -/

section
variable {s : State} {i : Imager}

theorem State.orderStep_eq : s.orderStep i =
    let c := s.chan.get i
    { s with chan := s.chan.set i { c with
      out := { c.out with step := true, stepStart := s.clock.ref },
      seq := { c.seq with stepDue := false, steps := c.seq.steps + 1 } } } := rfl

theorem State.exposingIndex_eq (valid : Bool) : s.exposingIndex i valid =
    let q := (s.chan.get i).seq
    if q.emissionPending = true then s.endExposure i .truncated
    else if q.stepDue = false then s.writeOrSkip i valid
    else if (s.chan.get i).out.step = true then s.endExposure i .truncated
    else (s.orderStep i).writeOrSkip i valid := by
  unfold State.exposingIndex
  refine if_congr Iff.rfl rfl ?_
  rw [← ite_not]
  exact if_congr (iff_of_eq (Bool.not_eq_true _)) rfl rfl

/-- The first revolution of EXPOSING finds no emission pending and no step due (R116, log 38). -/
theorem State.exposingIndex_fresh (valid : Bool) (hpending : (s.chan.get i).seq.emissionPending = false)
    (hdue : (s.chan.get i).seq.stepDue = false) : s.exposingIndex i valid = s.writeOrSkip i valid := by
  rw [State.exposingIndex_eq]
  dsimp only
  rw [hpending, if_neg Bool.false_ne_true, if_pos hdue]

/-- SPINUP completes with the build `n` (R116). -/
theorem State.spinupCompletes_eq {n : Nat} (hn : (s.chan.get i).seq.build = some n) :
    s.spinupCompletes i = State.writeOrSkip i true { s with
      chan := s.chan.set i { s.chan.get i with seq := { (s.chan.get i).seq with
        state := .exposing, spinDeadline := none, revolution := none, emissionPending := false, stepDue := false } },
      plates := { s.plates with builds := s.plates.builds.map fun b =>
        if b.bid = n then { b with state := .exposing } else b } } := by
  have hbid : (s.channel i).seq.build.getD Config.maxBuilds = n := by
    rw [State.channel, hn]
    rfl
  unfold State.spinupCompletes
  dsimp only
  rw [hbid, State.exposingIndex_fresh]
  · rfl
  · exact congrArg (fun c : Channel => c.seq.emissionPending) (Pair.get_set_same _ _ _)
  · exact congrArg (fun c : Channel => c.seq.stepDue) (Pair.get_set_same _ _ _)

/-- An index in SPINUP, `run` being the valid run that it leaves (R116). -/
theorem State.spinupIndex_eq {valid : Bool} {run : Nat}
    (hrun : (if valid then (s.chan.get i).seq.validRun + 1 else 0) = run) :
    s.spinupIndex i valid =
      let t : State := { s with
        chan := s.chan.set i { s.chan.get i with seq := { (s.chan.get i).seq with validRun := run } } }
      if 4 ≤ run then t.spinupCompletes i else t := by
  subst hrun
  rfl

/-- An index is measured, then taken by the Imager Sequencer in SPINUP and in EXPOSING alone (R107), `d` being the drum
that it leaves. -/
theorem State.indexPulse_eq {d : Drum} (hd : (s.chan.get i).drum.index (s.chan.get i).settings = d) :
    s.indexPulse i =
      let t : State := { s with chan := s.chan.set i { s.chan.get i with drum := d } }
      match (s.chan.get i).seq.state with
      | .spinup => t.spinupIndex i d.judgment.isNone
      | .exposing => t.exposingIndex i d.judgment.isNone
      | _ => t := by
  subst hd
  rfl

end

/-- Settles O37: the judgment by `judge_eq`, then the Imager Sequencer's part (`State.indexPulse_eq`) in each state. -/
theorem indexJudgesRevolution : Obligations.IndexJudgesRevolution := by
  intro i s hrun c d e w judgment drum t run
  have hdrum : d.index c.settings = drum := by
    rw [Drum.index, judge_eq]
  have hvalid : drum.judgment.isNone = decide (judgment = none) := by
    show judgment.isNone = _
    cases judgment <;> rfl
  have hpulse := State.indexPulse_eq hdrum
  rw [hvalid] at hpulse
  have hchan : t.chan.get i = { c with drum := drum } := Pair.get_set_same _ _ _
  have hvalidRun : (if decide (judgment = none) then (t.chan.get i).seq.validRun + 1 else 0) = run := by
    rw [hchan]
    exact if_congr decide_eq_true_iff rfl rfl
  have hindex : ∀ u, s.indexPulse i = u → exec (.index i) s = .next u.finish := fun u hu => by
    rw [← hu]
    exact taken_running _ _ hrun
  have hspinup : c.seq.state = .spinup → s.indexPulse i =
      let u : State := { s with chan := s.chan.set i { c with drum := drum, seq := { c.seq with validRun := run } } }
      if 4 ≤ run then u.spinupCompletes i else u := fun hstate => by
    rw [hpulse, hstate]
    dsimp only
    rw [State.spinupIndex_eq hvalidRun, hchan, Pair.set_set]
  refine ⟨fun hspin hexpose => hindex _ ?_, fun hstate hless => hindex _ ?_, fun bid hstate hfour hbuild => hindex _ ?_,
    fun hstate => hindex _ ?_⟩
  · rw [hpulse]
    dsimp only
    split
    · exact absurd ‹_› hspin
    · exact absurd ‹_› hexpose
    · rfl
  · rw [hspinup hstate]
    exact if_neg (Nat.not_le.mpr hless)
  · rw [hspinup hstate]
    dsimp only
    rw [if_pos hfour, State.spinupCompletes_eq (n := bid), Pair.get_set_same, Pair.set_set]
    rw [Pair.get_set_same]
    exact hbuild
  · rw [hpulse, hstate]
    dsimp only
    rw [State.exposingIndex_eq, State.orderStep_eq, hchan]
    dsimp only
    rw [Pair.set_set]

/-! ### IMAGER SET and IMAGER CLEAR (R112, R113, R127) -/

theorem settingsBad_iff (a : SettingArgs) : (!settingsInRange a) = true ↔
    ¬ (a.d ≤ 4095 ∧ 1 ≤ a.pRev ∧ a.pRev ≤ 65535 ∧ 1 ≤ a.c ∧ a.c ≤ 16777215 ∧ (a.mult = 1 ∨ a.mult = 2 ∨ a.mult = 4) ∧
      1 ≤ a.tol ∧ a.tol ≤ 64 ∧ a.g ≤ 65535 ∧ 1 ≤ a.skipLimit ∧ a.skipLimit ≤ 7) := by
  simp only [settingsInRange, Bool.not_eq_true', ← Bool.not_eq_true, Bool.and_eq_true, Bool.or_eq_true,
    decide_eq_true_eq, and_assoc, or_assoc]

/-- E and W_t of a request's settings (R110). -/
theorem settingsOf_eq (a : SettingArgs) :
    let e := a.pRev * 2 * (a.d + 1)
    settingsOf a = ⟨a.d, a.pRev, a.c, a.mult, a.tol, a.g, a.skipLimit, e, e * a.tol / 4096⟩ := by
  rw [settingsOf, expectedPeriod, ← Nat.mul_assoc]
  rfl

theorem ImagerState.unsettable_iff (x : ImagerState) : (!x.settable) = true ↔ x ≠ .idle ∧ x ≠ .fault := by
  rw [Bool.not_eq_true', ← Bool.not_eq_true, ImagerState.settable_iff, not_or]

/-- Settles O34: the refusals in their order (`Answer.answering_ite`), the settings by `settingsOf_eq`. -/
theorem imagerSetAndClear : Obligations.ImagerSetAndClear := by
  intro tag i a s set clear c e w
  refine ⟨fun h => ?_, fun h => ?_, fun n hn => ⟨fun h => ?_, fun h => ?_⟩⟩
  · refine (request_answers h).trans (congrArg _ ?_)
    rw [applyImagerSet, imagerOf_code, settingsOf_eq]
    exact Answer.answering_ite (settingsBad_iff a) rfl fun _ => Answer.answering_ite Iff.rfl rfl fun _ =>
      Answer.answering_ite (ImagerState.unsettable_iff _) rfl fun _ => rfl
  · refine (request_answers h).trans (congrArg _ ?_)
    rw [applyImagerClear, imagerOf_code]
    exact Answer.answering_ite Iff.rfl rfl fun _ => rfl
  · refine request_refused h ?_
    rw [applyImagerSet, imagerOf_beyond hn]
  · refine request_refused h ?_
    rw [applyImagerClear, imagerOf_beyond hn]

end Sys2Proof.Machine
end


-- ==== Sys2Proof/Proofs/LineMoves.lean ====
section
/-! PROOF. The moves of the Line Tracker: the to-gate windows, the gates, the releases (chapter 7). -/

namespace Sys2Proof.Machine

/-! ### What may move (R140, R142, R144) -/

section
variable {l : Line} {st : Station} {it : Item}

/-- The gate position of the zone above the station is clear, item by item (R140). -/
theorem Line.gateClear_iff : l.gateClear st = true ↔
    (∀ j ∈ l.items, j.zone = st.above → j.location ≠ .atGate) ∧
      ∀ j ∈ l.items, j.zone = st.zone → j.location ≠ .entering := by
  simp only [Line.gateClear, Line.inZone, Bool.and_eq_true, List.all_eq_true, List.mem_filter, decide_eq_true_eq,
    and_imp]

/-- The oldest item of the zone above the station that is yet to come to its gate. -/
def Line.nextToGate (l : Line) (st : Station) : Option Item :=
  l.items.find? fun j => decide (j.zone = st.above ∧ (j.location = .merging ∨ j.location = .conveying))

theorem Line.toGateItem_eq_some_iff : l.toGateItem st = some it ↔
    l.gateClear st = true ∧ l.nextToGate st = some it ∧ it.location = .conveying := by
  have hnext : (l.inZone st.above).find? (fun j => decide (j.location = .merging) || decide (j.location = .conveying)) =
      l.nextToGate st := by
    simp only [Line.inZone, List.find?_filter, Line.nextToGate, Bool.decide_and, Bool.decide_or, Bool.decide_eq_true]
  have hfilter : l.toGateItem st =
      if l.gateClear st = true then (l.nextToGate st).filter fun j => decide (j.location = .conveying) else none := by
    rw [Line.toGateItem, hnext]
    cases l.nextToGate st with
    | none => rfl
    | some j => simp only [Option.filter_some, decide_eq_true_eq]
  rw [hfilter, Option.ite_none_right_eq_some, Option.filter_eq_some_iff, decide_eq_true_eq]

theorem Line.gateReady_eq_some_iff : l.gateReady st = some it ↔
    l.state = .running ∧ (l.items.find? fun j => decide (j.zone = st.zone)) = none ∧
      (l.items.find? fun j => decide (j.zone = st.above)) = some it ∧ it.location = .atGate := by
  have hhead : (l.items.find? fun j => decide (j.zone = st.above)) = (l.inZone st.above).head? :=
    List.head?_filter.symm
  have hfilter : l.gateReady st =
      if l.state = .running ∧ (l.items.find? fun j => decide (j.zone = st.zone)) = none then
        (l.inZone st.above).head?.filter fun j => decide (j.location = .atGate) else none := by
    rw [Line.gateReady]
    simp only [Line.inZone_isEmpty]
    cases l.inZone st.above with
    | nil => rfl
    | cons j rest => simp only [List.head?_cons, Option.filter_some, decide_eq_true_eq]
  rw [hfilter, hhead, Option.ite_none_right_eq_some, Option.filter_eq_some_iff, decide_eq_true_eq, and_assoc]

theorem Line.releaseReady_eq_some_iff {z : Zone} : l.releaseReady st = some (it, z) ↔
    belowStation st = some z ∧ (l.items.find? fun j => decide (j.zone = st.zone)) = some it ∧
      l.state = .running ∧ it.location = .inStation ∧ it.work = some .done ∧ l.hasRoom z = true := by
  rw [Line.releaseReady, Line.stationItem_eq]
  cases belowStation st with
  | none => simp
  | some y =>
    cases l.items.find? fun j => decide (j.zone = st.zone) with
    | none => simp
    | some j =>
      simp only [Option.some.injEq, Option.ite_none_right_eq_some, Prod.mk.injEq]
      constructor
      · rintro ⟨hready, rfl, rfl⟩
        exact ⟨rfl, rfl, hready⟩
      · rintro ⟨rfl, rfl, hready⟩
        exact ⟨hready, rfl, rfl⟩

end
/-! ### The moves made (R140, R142, R144) -/

theorem Line.startToGate_starts {l : Line} {st : Station} {it : Item} (now : Nat) (hrun : l.state = .running)
    (hnext : l.toGateItem st = some it) (hw : it.window = none) :
    l.startToGate now st =
      l.modifyItem it.order fun j => { j with window := some (l.newWindow st.gateKind st.gateSensor now) } := by
  rw [Line.startToGate, if_pos hrun, hnext]
  exact if_pos (Option.isNone_iff_eq_none.mpr hw)

theorem Line.startToGate_stays {l : Line} {st : Station} (now : Nat)
    (h : l.state = .running → ∀ it, l.toGateItem st = some it → it.window ≠ none) : l.startToGate now st = l := by
  unfold Line.startToGate
  split
  · rename_i hrun
    split
    · rename_i it hnext
      exact if_neg (mt Option.isNone_iff_eq_none.mp (h hrun it hnext))
    · rfl
  · rfl

theorem State.gateOpens_opens {s : State} {st : Station} {it : Item} (h : s.line.gateReady st = some it) :
    s.gateOpens st = { s with line := { s.line.modifyItem it.order fun j => { j with
        zone := st.zone, location := .entering, window := some (s.line.newWindow st.entryKind st.sensor s.clock.time) } with
      out := s.line.out.setGate st true } } := by
  rw [State.gateOpens, h]
  rfl

theorem State.gateOpens_stays {s : State} {st : Station} (h : ∀ it, s.line.gateReady st ≠ some it) :
    s.gateOpens st = s := by
  rw [State.gateOpens, Option.eq_none_iff_forall_ne_some.mpr h]

theorem State.itemReleases_releases {s : State} {st : Station} {it : Item} {z : Zone}
    (h : s.line.releaseReady st = some (it, z)) :
    s.itemReleases st = State.startToGates { s with line := s.line.modifyItem it.order fun j =>
      { j with zone := z, location := .conveying, work := none } } := by
  rw [State.itemReleases, h]
  rfl

theorem State.itemReleases_stays {s : State} {st : Station} (h : ∀ it z, s.line.releaseReady st ≠ some (it, z)) :
    s.itemReleases st = s := by
  have hnone : s.line.releaseReady st = none := Option.eq_none_iff_forall_ne_some.mpr fun ⟨it, z⟩ => h it z
  rw [State.itemReleases, hnone]

/-- A station above a conveyor zone releases to it, which has room for two items (R133, R144). -/
theorem belowStation_eq {st : Station} (h : st ≠ .sort) :
    belowStation st = some (if st = .punch then .link else .outfeed) := by
  cases st with
  | punch => rfl
  | bend => rfl
  | sort => exact absurd rfl h

theorem capacity_below {st : Station} {z : Zone} (h : belowStation st = some z) : z.capacity = 2 := by
  cases st <;> cases h <;> rfl

/-- Settles O47: what may move (`Line.toGateItem_eq_some_iff`, `Line.gateReady_eq_some_iff`,
`Line.releaseReady_eq_some_iff`), and what a move leaves. -/
theorem gatesAndReleases : Obligations.GatesAndReleases := by
  intro st s now l window above zone clear first toGate entry head inside
  have habove : above = st.above := by cases st <;> rfl
  have hzone : zone = st.zone := by cases st <;> rfl
  have htoGate : toGate = l.newWindow st.gateKind st.gateSensor now := by cases st <;> rfl
  have hentry : entry = l.newWindow st.entryKind st.sensor now := by cases st <;> rfl
  have hclear : clear ↔ l.gateClear st = true := by rw [Line.gateClear_iff, ← habove, ← hzone]
  have hfirst : first = l.nextToGate st := by rw [Line.nextToGate, ← habove]
  have hnext : ∀ it, l.toGateItem st = some it ↔ clear ∧ first = some it ∧ it.location = .conveying := fun it => by
    rw [hclear, hfirst, Line.toGateItem_eq_some_iff]
  have hready : ∀ it, l.gateReady st = some it ↔
      l.state = .running ∧ inside = none ∧ head = some it ∧ it.location = .atGate := fun it => by
    rw [Line.gateReady_eq_some_iff, ← hzone, ← habove]
  have hrelease : ∀ it z, l.releaseReady st = some (it, z) ↔ belowStation st = some z ∧ inside = some it ∧
      l.state = .running ∧ it.location = .inStation ∧ it.work = some .done ∧ l.hasRoom z = true := fun it z => by
    rw [Line.releaseReady_eq_some_iff, ← hzone]
  refine ⟨fun it hrun hc hf hconv hw => ?starts, fun h => ?waits, rfl, fun hrun => ?events, fun it hrun hin hhead hgate =>
    ?opens, fun h => ?shut, fun it hst hrun hin hstation hdone => ?releases, fun h => ?stays⟩
  case starts =>
    rw [Line.startToGate_starts now hrun ((hnext it).mpr ⟨hc, hf, hconv⟩) hw, ← htoGate]
    rfl
  case waits =>
    refine Line.startToGate_stays now fun hrun it hit => ?_
    obtain ⟨hc, hf, hconv⟩ := (hnext it).mp hit
    rcases h with h | h | h | ⟨j, hj, h⟩
    · exact absurd hrun h
    · exact absurd hc h
    · exact absurd (hf.symm.trans h) (Option.some_ne_none it)
    · obtain rfl := Option.some.inj (hj.symm.trans hf)
      exact h.resolve_left fun hmerging => by simp [hmerging] at hconv
  case events => exact ⟨taken_running _ _ hrun, taken_running _ _ hrun⟩
  case opens =>
    rw [State.gateOpens_opens ((hready it).mpr ⟨hrun, hin, hhead, hgate⟩), ← hzone, ← hentry]
    cases st <;> rfl
  case shut =>
    refine State.gateOpens_stays fun it hit => ?_
    obtain ⟨hrun, hin, hhead, hgate⟩ := (hready it).mp hit
    rcases h with h | h | h | ⟨j, hj, h⟩
    · exact h hrun
    · exact h hin
    · exact Option.some_ne_none it (hhead.symm.trans h)
    · exact h (Option.some.inj (hj.symm.trans hhead) ▸ hgate)
  case releases =>
    intro next
    have hbelow : belowStation st = some next := belowStation_eq hst
    have hroom : l.hasRoom next = true ↔ (l.items.filter fun j => decide (j.zone = next)).length < 2 :=
      capacity_below hbelow ▸ l.hasRoom_iff next
    split
    · rename_i hlt
      rw [State.itemReleases_releases
        ((hrelease it next).mpr ⟨hbelow, hin, hrun, hstation, hdone, hroom.mpr hlt⟩)]
      rfl
    · rename_i hfull
      refine State.itemReleases_stays fun j z hj => hfull (hroom.mp ?_)
      obtain ⟨hz, -, -, -, -, hr⟩ := (hrelease j z).mp hj
      obtain rfl := Option.some.inj (hz.symm.trans hbelow)
      exact hr
  case stays =>
    refine State.itemReleases_stays fun it z hit => ?_
    obtain ⟨hz, hin, hrun, hstation, hdone, -⟩ := (hrelease it z).mp hit
    rcases h with rfl | h | h | ⟨j, hj, h⟩
    · cases hz
    · exact h hrun
    · exact Option.some_ne_none it (hin.symm.trans h)
    · obtain rfl := Option.some.inj (hj.symm.trans hin)
      exact h.elim (· hstation) (· hdone)

end Sys2Proof.Machine
end


-- ==== Sys2Proof/Proofs/MergeGrants.lean ====
section
/-! PROOF. The Merge Arbiter: the request that is granted, what a grant leaves, and the merge spacing (chapter 7). -/

namespace Sys2Proof.Machine

variable {s : State} {r : ExitRequest} {b : Build}

/-! ### A grant (R136 to R138) -/

/-- The line after a grant: the item is on it, the request withdrawn, the spacing started (R138). -/
def Line.granted (l : Line) (r : ExitRequest) (b : Build) (now : Nat) : Line :=
  { l with
    items := l.items ++ [b.toItem l.counter r.imager (l.newWindow .exit (exitSensor r.imager) now)]
    counter := (l.counter + 1) % 65536
    merge := ⟨l.merge.requests.filter fun q => decide (q.imager ≠ r.imager), some now,
      some (deadlineAfter now l.table.spacing), false⟩ }

theorem State.modifyOut_modifySeq (i : Imager) (f : ImagerOut → ImagerOut) (g : Sequencer → Sequencer) (u : State) :
    (u.modifyOut i f).modifySeq i g =
      let c := u.chan.get i
      { u with chan := u.chan.set i { c with out := f c.out, seq := g c.seq } } := by
  cases i <;> rfl

theorem State.grantTo_eq (r : ExitRequest) (b : Build) (s : State) :
    s.grantTo r b =
      let u := (State.freeBuild b.bid { s with line := s.line.granted r b s.now }).workPending
      let c := s.chan.get r.imager
      { u with chan := s.chan.set r.imager { c with
        out := { c.out with eject := true }, seq := { c.seq with state := .unloading, build := none } } } := by
  simp only [State.grantTo, State.modifyOut_modifySeq, State.workPending_frame, State.freeBuild_frame]
  rfl

theorem State.mergeGrants_grants (hready : s.line.grantReady = true) (hr : winner s.line.merge.requests = some r)
    (hb : (s.channel r.imager).seq.build.bind s.build = some b) : s.mergeGrants = s.grantTo r b := by
  rw [State.mergeGrants, if_pos hready, hr]
  dsimp only
  rw [hb]

theorem State.mergeGrants_waits (h : ¬ s.line.grantReady = true) : s.mergeGrants = s := if_neg h

/-- The Merge Arbiter makes no grant, or a grant when there is room in TRANSFER. -/
theorem State.mergeGrants_cases (s : State) :
    s.mergeGrants = s ∨ s.line.grantReady = true ∧ ∃ r b, s.mergeGrants = s.grantTo r b := by
  unfold State.mergeGrants
  split
  · rename_i hready
    split
    · exact .inl rfl
    · split
      · exact .inl rfl
      · exact .inr ⟨hready, _, _, rfl⟩
  · exact .inl rfl

/-! ### The merge spacing (R136) -/

/-- A spacing that has elapsed stays elapsed, whether its deadline is reached again or not. -/
theorem State.spacingExpires_eq {d : Nat} (hd : s.line.merge.deadline = some d) :
    s.spacingExpires = if reached s.clock.time d then
      { s with line := { s.line with merge := { s.line.merge with spacingOver := true } } } else s := by
  unfold State.spacingExpires
  rw [hd]
  cases hover : s.line.merge.spacingOver with
  | false =>
    rw [Bool.not_false, Bool.true_and]
    exact if_congr (dueAt_some _ d) rfl rfl
  | true =>
    have hmerge : { s.line.merge with spacingOver := true } = s.line.merge := by rw [← hover]
    rw [hmerge, Bool.not_true, Bool.false_and, if_neg Bool.false_ne_true, ite_self]

theorem State.spacingExpires_none (hd : s.line.merge.deadline = none) : s.spacingExpires = s := by
  rw [State.spacingExpires, hd, dueAt, Bool.and_false, if_neg Bool.false_ne_true]

/-- Settles O49: the conditions (`Line.grantReady_eq`), the choice (`winner_eq`), the grant (`State.grantTo_eq`) and the
spacing. -/
theorem mergeGrantAndSpacing : Obligations.MergeGrantAndSpacing := by
  intro s hrun l m now
  refine ⟨taken_running _ _ hrun, fun r b bid before after hline hroom hspaced hrequests hbefore hafter hbid hb => ?grants,
    fun h => ?waits, fun d hd => ?expires, fun hd => ?endless⟩
  case grants =>
    intro e sensor item u c
    obtain rfl : b.bid = bid := by simpa using List.find?_some hb
    have hready : s.line.grantReady = true := by
      rw [Line.grantReady_eq, decide_eq_true_iff]
      exact ⟨hline, hroom, hspaced, hrequests ▸ List.append_ne_nil_of_right_ne_nil before (List.cons_ne_nil r after)⟩
    have hwins : winner m.requests = some r := hrequests ▸ winner_eq before after r hbefore hafter
    have hbuild : (s.channel r.imager).seq.build.bind s.build = some b :=
      Option.bind_eq_some_iff.mpr ⟨b.bid, hbid, hb⟩
    have hsensor : exitSensor r.imager = sensor := by
      unfold sensor exitSensor
      cases r.imager <;> rfl
    have hitem : b.toItem s.line.counter r.imager (s.line.newWindow .exit (exitSensor r.imager) s.now) = item := by
      have hpress : b.press.getD 0 = item.press := by
        unfold item
        cases b.press <;> rfl
      rw [hsensor, Build.toItem, hpress]
      rfl
    rw [State.mergeGrants_grants hready hwins hbuild, State.grantTo_eq, Line.granted, hitem]
    rfl
  case waits =>
    refine State.mergeGrants_waits fun hready => ?_
    rw [Line.grantReady_eq, decide_eq_true_iff] at hready
    obtain ⟨hline, hroom, hspaced, hrequests⟩ := hready
    rcases h with h | h | ⟨hlast, hover⟩ | h
    · exact h hline
    · exact absurd hroom (Nat.not_lt_of_le h)
    · exact hspaced.elim hlast fun hset => Bool.false_ne_true (hover.symm.trans hset)
    · exact hrequests h
  case expires =>
    rw [← State.spacingExpires_eq hd]
    exact taken_running _ _ hrun
  case endless =>
    refine (taken_running State.spacingExpires _ hrun).trans ?_
    rw [State.spacingExpires_none hd]

end Sys2Proof.Machine
end


-- ==== Sys2Proof/Proofs/LineZones.lean ====
section
/-! PROOF. The items' places on the line and the capacities of the zones: what keeps every item in its place, what moves
one, what takes one away (chapter 7, R133). -/

namespace Sys2Proof.Machine

/-! ### Places (R132, R133) -/

/-- Where an item is: its order number and its zone. -/
def Item.place (it : Item) : Nat × Zone := (it.order, it.zone)

/-- The places of the items on the line. -/
def Line.places (l : Line) : List (Nat × Zone) := l.items.map Item.place

theorem places_map {items : List Item} {f : Item → Item} (hf : ∀ it, (f it).place = it.place) :
    (items.map f).map Item.place = items.map Item.place := by
  rw [List.map_map]
  exact List.map_congr_left fun it _ => hf it

theorem sublist_of_eq {α : Type} {l l' : List α} (h : l = l') : l.Sublist l' := h ▸ .refl l

theorem Line.places_modifyItem (l : Line) (n : Nat) {f : Item → Item} (hf : ∀ it, (f it).place = it.place) :
    (l.modifyItem n f).places = l.places := by
  refine places_map fun it => ?_
  split
  · exact hf it
  · rfl

theorem Line.length_inZone (l : Line) (z : Zone) :
    (l.inZone z).length = (l.places.filter fun p => decide (p.2 = z)).length := by
  rw [Line.places, List.filter_map, List.length_map]
  rfl

/-! ### Operations that leave every item in its place -/

section
variable (s : State)

@[simp] theorem Line.places_startToGate (l : Line) (now : Nat) (st : Station) :
    (l.startToGate now st).places = l.places := by
  unfold Line.startToGate
  split
  · split
    · split
      · exact l.places_modifyItem _ fun _ => rfl
      · rfl
    · rfl
  · rfl

@[simp] theorem State.places_startToGates : s.startToGates.line.places = s.line.places := by
  simp [State.startToGates]

@[simp] theorem State.places_retireItem (n : Nat) (c : Cause) : (s.retireItem n c).line.places = s.line.places :=
  s.line.places_modifyItem n fun it => by split <;> rfl

@[simp] theorem State.places_finishWork (n : Nat) : (s.finishWork n).line.places = s.line.places :=
  s.line.places_modifyItem n fun _ => rfl

@[simp] theorem State.places_noticeTaken (n : Nat) : (s.noticeTaken n).line.places = s.line.places :=
  s.line.places_modifyItem n fun _ => rfl

@[simp] theorem State.places_retireForReplacement (n : Nat) (c : Cause) :
    (s.retireForReplacement n c).line.places = s.line.places := by
  unfold State.retireForReplacement
  split
  · rfl
  · split <;> simp

@[simp] theorem Line.places_halted (l : Line) (h : HaltRecord) (now : Nat) : (l.halted h now).places = l.places :=
  places_map fun _ => rfl

@[simp] theorem State.places_haltLine (c : HaltCause) (n m : Option Nat) (e : Option ExitName) :
    (s.haltLine c n m e).line.places = s.line.places := by
  unfold State.haltLine
  dsimp only
  split
  · simp
  · split
    · rfl
    · simp [Line.places]
  · rfl

@[simp] theorem State.places_tick : s.tick.line.places = s.line.places := places_map fun _ => rfl

@[simp] theorem State.places_toNextTick : s.toNextTick.line.places = s.line.places := State.places_tick _

@[simp] theorem State.places_referenceTick : s.referenceTick.line.places = s.line.places := by
  unfold State.referenceTick
  split
  · exact State.places_tick _
  · rfl

/-! ### The completion notice (R43, R46) -/

@[simp] theorem State.places_workEntry (k : PageKey) (v : Nat) (p : PlateId) :
    (s.workEntry k v p).line.places = s.line.places := by
  have hbuild : ∀ e, (match s.currentBuild p with
      | none => s
      | some b => if b.state.waits then s.rebindBuild e b k v else s.retireBuild b .superseded).line.places =
        s.line.places := fun e => by
    split
    · rfl
    · split <;> simp [Line.places]
  unfold State.workEntry
  split
  · rfl
  · rename_i e _
    simp only [State.needCheck_frame]
    rw [← hbuild e]
    split
    · rfl
    · split
      · exact State.places_retireItem _ _ _
      · rfl

@[simp] theorem State.places_workEntries (k : PageKey) (v : Nat) (ps : List PlateId) :
    (s.workEntries k v ps).line.places = s.line.places := by
  induction ps generalizing s with
  | nil => rfl
  | cons p ps ih => exact (ih _).trans (s.places_workEntry k v p)

@[simp] theorem State.places_workNotice : s.workNotice.line.places = s.line.places := by
  unfold State.workNotice
  split <;> simp

/-! ### The stations (chapters 8 and 9) -/

@[simp] theorem State.places_punchFinishes (n : Nat) : (s.punchFinishes n).line.places = s.line.places :=
  State.places_finishWork _ _

@[simp] theorem State.places_punchTakes (it : Item) : (s.punchTakes it).line.places = s.line.places := by
  unfold State.punchTakes
  dsimp only
  repeat' split
  all_goals simp

@[simp] theorem State.places_punchEntry : s.punchEntry.line.places = s.line.places := by
  unfold State.punchEntry
  repeat' split
  all_goals simp

@[simp] theorem State.places_punchContinues (n : Nat) : (s.punchContinues n).line.places = s.line.places := by
  unfold State.punchContinues
  repeat' split
  all_goals simp

@[simp] theorem State.places_dieHome (n t : Nat) : (s.dieHome n t).line.places = s.line.places := by
  unfold State.dieHome
  split <;> simp

@[simp] theorem State.places_dieExpires : s.dieExpires.line.places = s.line.places := by
  unfold State.dieExpires
  split
  · split <;> simp
  · rfl

@[simp] theorem State.places_punchReturns : s.punchReturns.line.places = s.line.places := by
  unfold State.punchReturns
  dsimp only
  repeat' split
  all_goals simp

@[simp] theorem State.places_bendFinishes (n : Nat) : (s.bendFinishes n).line.places = s.line.places :=
  State.places_finishWork _ _

@[simp] theorem State.places_bendTakes (it : Item) : (s.bendTakes it).line.places = s.line.places := by
  unfold State.bendTakes
  dsimp only
  repeat' split
  all_goals simp

@[simp] theorem State.places_bendEntry : s.bendEntry.line.places = s.line.places := by
  unfold State.bendEntry
  repeat' split
  all_goals simp

@[simp] theorem State.places_bendContinues (n : Nat) (k : BendKind) :
    (s.bendContinues n k).line.places = s.line.places := by
  unfold State.bendContinues
  repeat' split
  all_goals simp

@[simp] theorem State.places_bendDone (t : Nat) : (s.bendDone t).line.places = s.line.places := by
  unfold State.bendDone
  split <;> simp

@[simp] theorem State.places_bendExpires : s.bendExpires.line.places = s.line.places := by
  unfold State.bendExpires
  split
  · split <;> simp
  · rfl

@[simp] theorem State.places_bendReturns : s.bendReturns.line.places = s.line.places := by
  unfold State.bendReturns
  dsimp only
  repeat' split
  all_goals simp

@[simp] theorem State.places_fixDestination (n : Nat) (d : Destination) (v : Option Divert) (r : Bool) :
    (s.fixDestination n d v r).line.places = s.line.places := by
  unfold State.fixDestination
  dsimp only
  split
  · rfl
  · exact Line.places_modifyItem _ n fun _ => rfl

@[simp] theorem State.places_decideFor (it : Item) : (s.decideFor it).line.places = s.line.places := by
  unfold State.decideFor
  repeat' split
  all_goals simp

@[simp] theorem State.places_haltBlocked : s.haltBlocked.line.places = s.line.places := by
  unfold State.haltBlocked
  split <;> simp

@[simp] theorem State.places_sortTakes : s.sortTakes.line.places = s.line.places := by
  unfold State.sortTakes
  repeat' split
  all_goals simp

@[simp] theorem State.places_sortEntry : s.sortEntry.line.places = s.line.places := by
  unfold State.sortEntry
  split <;> simp

@[simp] theorem State.places_sorterReturns : s.sorterReturns.line.places = s.line.places := by
  unfold State.sorterReturns
  split <;> simp

@[simp] theorem State.places_tellReturn (blocked : Bool) : (s.tellReturn blocked).line.places = s.line.places := by
  unfold State.tellReturn
  split <;> simp

/-! ### The events of the line (R141, R146, R152) -/

@[simp] theorem State.places_clamped (i : Imager) : (s.clamped i).line.places = s.line.places :=
  congrArg (List.map Item.place) (by simp)

@[simp] theorem State.places_windowExpires (x : LineSensor) : (s.windowExpires x).line.places = s.line.places := by
  unfold State.windowExpires
  split <;> simp

@[simp] theorem State.places_phantom (x : LineSensor) (n : Option Nat) (t : Nat) :
    (s.phantom x n t).line.places = s.line.places := by
  unfold State.phantom
  split <;> simp

/-- The item deleted is gone, and every other is in its place. -/
theorem State.places_deleteItem (n : Nat) : ((s.deleteItem n).line.places).Sublist s.line.places :=
  List.filter_sublist.map _

theorem State.places_depositItem (it : Item) (t : Nat) : ((s.depositItem it t).line.places).Sublist s.line.places := by
  have hline : (s.depositItem it t).line = (s.deleteItem it.order).line := by
    unfold State.depositItem
    dsimp only
    split
    · simp
    · rfl
  rw [hline]
  exact s.places_deleteItem _

theorem State.places_matched (it : Item) (k : WindowKind) (t : Nat) :
    ((s.matched it k t).line.places).Sublist s.line.places := by
  have hgate : (s.gateMatched it).line.places = s.line.places := s.line.places_modifyItem _ fun _ => rfl
  have hentry : ∀ st, (s.entryMatched it st t).line.places = s.line.places := fun st => by
    rw [State.entryMatched_eq]
    exact s.line.places_modifyItem _ fun _ => rfl
  cases k with
  | exit =>
    rw [State.matched, State.exitMatched_eq]
    exact sublist_of_eq (s.line.places_modifyItem _ fun _ => rfl)
  | transferGate => exact sublist_of_eq hgate
  | linkGate => exact sublist_of_eq hgate
  | outfeedGate => exact sublist_of_eq hgate
  | punchEntry => exact sublist_of_eq (hentry .punch)
  | bendEntry => exact sublist_of_eq (hentry .bend)
  | sortEntry => exact sublist_of_eq (hentry .sort)
  | deposit => exact s.places_depositItem it t

theorem State.places_lineArrival (x : LineSensor) (t : Nat) : ((s.lineArrival x t).line.places).Sublist s.line.places := by
  unfold State.lineArrival
  split
  · exact sublist_of_eq (by simp)
  · split
    · exact .refl _
    · split
      · rw [State.places_startToGates]
        exact s.places_matched _ _ _
      · exact sublist_of_eq (by simp)

theorem State.places_takeArrival (n t : Nat) : ((s.takeArrival n t).line.places).Sublist s.line.places := by
  unfold State.takeArrival
  split
  · exact s.places_lineArrival _ _
  · refine sublist_of_eq ?_
    split_ifs <;> simp

theorem State.places_arrival (n : Nat) : ((s.arrival n).line.places).Sublist s.line.places := by
  unfold State.arrival
  split
  · exact (State.places_takeArrival _ _ _).trans (sublist_of_eq (by simp))
  · exact .refl _

theorem State.places_settle (n : Nat) : ((s.settle n).line.places).Sublist s.line.places := by
  unfold State.settle
  split
  · simpa using s.places_arrival n
  · exact .refl _

theorem State.places_rawLevel (n : Nat) (level : Bool) : ((s.rawLevel n level).line.places).Sublist s.line.places := by
  unfold State.rawLevel
  split
  · exact s.places_settle n
  · exact .refl _

theorem State.places_configureInput (n : Nat) (rising : Bool) (filter : Nat) :
    ((s.configureInput n rising filter).line.places).Sublist s.line.places := by
  unfold State.configureInput
  dsimp only
  split_ifs <;> exact s.places_settle n

/-- No item is on the line after power-on reset (R154). -/
@[simp] theorem State.places_powerOn (l : BitVec 32) (a b : Phase) : (s.powerOn l a b).line.places = [] := by
  rw [State.powerOn, State.attachFound_eq]
  rfl

@[simp] theorem State.places_assertReset : s.assertReset.line.places = s.line.places := rfl

theorem State.places_removeItem (it : Item) : ((s.removeItem it).line.places).Sublist s.line.places := by
  have hitems : (s.removeItem it).line.items = (s.deleteItem it.order).line.items := by
    unfold State.removeItem State.tellRemoved
    repeat' split
    all_goals simp
  rw [Line.places, hitems]
  exact s.places_deleteItem _

end

/-! ### Zones within their capacities (R133) -/

/-- No zone holds more than its capacity. -/
def Line.WithinCapacity (l : Line) : Prop := ∀ z, (l.inZone z).length ≤ z.capacity

/-- No zone holds more than its capacity, and the items have different order numbers, so that a move moves one item. -/
structure Line.Zoned (l : Line) : Prop where
  orders : (l.items.map Item.order).Nodup
  within : l.WithinCapacity

theorem zonesBounded_iff (s : State) : ZonesBounded s ↔ s.line.WithinCapacity := by
  refine ⟨fun ⟨htransfer, hpunch, hlink, hbend, houtfeed, hsort⟩ z => ?_, fun h =>
    ⟨h .transfer, h .punch, h .link, h .bend, h .outfeed, h .sort⟩⟩
  cases z
  · exact htransfer
  · exact hpunch
  · exact hlink
  · exact hbend
  · exact houtfeed
  · exact hsort

theorem Line.WithinCapacity.sublist {l m : Line} (h : l.WithinCapacity) (hm : m.places.Sublist l.places) :
    m.WithinCapacity := fun z => by
  rw [Line.length_inZone]
  exact (hm.filter _).length_le.trans (l.length_inZone z ▸ h z)

theorem Line.WithinCapacity.of_places {l m : Line} (h : l.WithinCapacity) (hm : m.places = l.places := by simp) :
    m.WithinCapacity :=
  h.sublist (sublist_of_eq hm)

theorem Line.WithinCapacity.of_items {l m : Line} (h : l.WithinCapacity) (hm : m.items = l.items := by simp) :
    m.WithinCapacity :=
  h.of_places (congrArg (List.map Item.place) hm)

/-- The capacities of the six zones make 11 items. -/
theorem Line.WithinCapacity.length_items {l : Line} (h : l.WithinCapacity) : l.items.length ≤ 11 := by
  have hzones : ∀ items : List Item, items.length =
      (items.filter fun it => decide (it.zone = .transfer)).length +
      (items.filter fun it => decide (it.zone = .punch)).length +
      (items.filter fun it => decide (it.zone = .link)).length +
      (items.filter fun it => decide (it.zone = .bend)).length +
      (items.filter fun it => decide (it.zone = .outfeed)).length +
      (items.filter fun it => decide (it.zone = .sort)).length := fun items => by
    induction items with
    | nil => rfl
    | cons it items ih =>
      rw [List.length_cons, ih]
      cases hz : it.zone <;> simp [hz] <;> omega
  have htransfer := h .transfer
  have hpunch := h .punch
  have hlink := h .link
  have hbend := h .bend
  have houtfeed := h .outfeed
  have hsort := h .sort
  simp only [Line.inZone, Zone.capacity] at htransfer hpunch hlink hbend houtfeed hsort
  rw [hzones]
  omega

/-- A move of the item of one order number brings at most one item to the zone it goes to, and none to any other. -/
theorem length_filter_move {items : List Item} (horders : (items.map Item.order).Nodup) {n : Nat} {z : Zone}
    {f : Item → Item} (hf : ∀ it, (f it).zone = z) (y : Zone) :
    ((items.map fun it => if it.order = n then f it else it).filter fun it => decide (it.zone = y)).length ≤
      (items.filter fun it => decide (it.zone = y)).length + if z = y then 1 else 0 := by
  induction items with
  | nil => exact Nat.zero_le _
  | cons it items ih =>
    obtain ⟨hnew, horders⟩ := List.nodup_cons.mp horders
    rw [List.map_cons, List.filter_cons, List.filter_cons]
    by_cases hn : it.order = n
    · have hrest : items.map (fun it => if it.order = n then f it else it) = items := by
        refine (List.map_congr_left fun j hj => if_neg fun hjn => hnew ?_).trans (List.map_id' items)
        exact List.mem_map.mpr ⟨j, hj, hjn.trans hn.symm⟩
      rw [if_pos hn, hrest, hf]
      by_cases hz : z = y <;> simp [hz]
      all_goals split <;> simp
    · rw [if_neg hn]
      have := ih horders
      split
      · rw [List.length_cons, List.length_cons]
        omega
      · exact this

namespace Line.Zoned

variable {l m : Line}

theorem sublist (h : l.Zoned) (hm : m.places.Sublist l.places) : m.Zoned where
  orders := by
    have hfst : ∀ items : List Item, items.map Item.order = (items.map Item.place).map Prod.fst := fun items =>
      (List.map_map (g := Prod.fst) (f := Item.place)).symm
    rw [hfst]
    exact (hm.map Prod.fst).nodup (hfst l.items ▸ h.orders)
  within := h.within.sublist hm

theorem of_places (h : l.Zoned) (hm : m.places = l.places := by simp) : m.Zoned := h.sublist (sublist_of_eq hm)

/-- An item moves to a zone that has room for it. -/
theorem move (h : l.Zoned) {n : Nat} {z : Zone} {f : Item → Item} (hf : ∀ it, (f it).place = (it.order, z))
    (hroom : l.hasRoom z = true) : (l.modifyItem n f).Zoned where
  orders := by
    have horder : (l.items.map fun it => if it.order = n then f it else it).map Item.order = l.items.map Item.order := by
      rw [List.map_map]
      refine List.map_congr_left fun it _ => ?_
      dsimp only [Function.comp_apply]
      split
      · exact congrArg Prod.fst (hf it)
      · rfl
    exact horder ▸ h.orders
  within y := by
    have hmoved := length_filter_move h.orders (n := n) (fun it => congrArg Prod.snd (hf it)) y
    refine hmoved.trans ?_
    split
    · subst y
      exact (l.hasRoom_iff z).mp hroom
    · exact h.within y

end Line.Zoned

/-! ### The moves and the merge (R138, R142, R144) -/

section
variable {s : State}

theorem Line.Zoned.gateOpens (h : s.line.Zoned) (st : Station) : (s.gateOpens st).line.Zoned := by
  cases hready : s.line.gateReady st with
  | none => rwa [State.gateOpens, hready]
  | some it =>
    obtain ⟨-, hempty, -⟩ := Line.gateReady_eq_some_iff.mp hready
    have hroom : s.line.hasRoom st.zone = true := by
      rw [Line.hasRoom_iff, List.filter_eq_nil_iff.mpr (List.find?_eq_none.mp hempty)]
      cases st <;> decide
    rw [State.gateOpens_opens hready]
    exact Line.Zoned.of_places (h.move (fun _ => rfl) hroom) rfl

theorem Line.Zoned.itemReleases (h : s.line.Zoned) (st : Station) : (s.itemReleases st).line.Zoned := by
  cases hready : s.line.releaseReady st with
  | none => rwa [State.itemReleases, hready]
  | some p =>
    obtain ⟨it, z⟩ := p
    obtain ⟨-, -, -, -, -, hroom⟩ := Line.releaseReady_eq_some_iff.mp hready
    rw [State.itemReleases_releases hready]
    exact Line.Zoned.of_places (h.move (fun _ => rfl) hroom) (State.places_startToGates _)

/-- A grant brings one item to TRANSFER, which has room for it. -/
theorem Line.WithinCapacity.grantTo (h : s.line.WithinCapacity) (hroom : s.line.hasRoom .transfer = true)
    (r : ExitRequest) (b : Build) : (s.grantTo r b).line.WithinCapacity := fun z => by
  have hline : (s.grantTo r b).line = s.line.granted r b s.now := by
    simp [State.grantTo_eq]
  rw [hline, Line.inZone, Line.granted, List.filter_append, List.length_append]
  by_cases hz : z = .transfer
  · subst hz
    exact (s.line.hasRoom_iff .transfer).mp hroom
  · have hother : decide ((b.toItem s.line.counter r.imager
        (s.line.newWindow .exit (exitSensor r.imager) s.now)).zone = z) = false :=
      decide_eq_false fun htransfer => hz htransfer.symm
    rw [List.filter_singleton, hother]
    exact h z

theorem Line.WithinCapacity.mergeGrants (h : s.line.WithinCapacity) : s.mergeGrants.line.WithinCapacity := by
  rcases s.mergeGrants_cases with heq | ⟨hready, r, b, heq⟩ <;> rw [heq]
  · exact h
  · rw [Line.grantReady_eq, decide_eq_true_iff] at hready
    obtain ⟨-, hroom, -, -⟩ := hready
    exact h.grantTo ((s.line.hasRoom_iff .transfer).mpr hroom) r b

/-- The return to RUNNING moves items through the gates and the releases, and makes one grant last (R153). -/
theorem Line.Zoned.returnToRunning (h : s.line.Zoned) : s.returnToRunning.line.WithinCapacity := by
  have hreturned : (s.line.returned s.now).Zoned := h.of_places (places_map fun _ => rfl)
  have htaken : (State.startToGates { s with line := s.line.returned s.now }).takeNotices.line.Zoned :=
    hreturned.of_places (by simp [State.takeNotices])
  have hmoved : (State.moveWaiting _).line.Zoned :=
    ((((htaken.gateOpens .sort).itemReleases .bend).gateOpens .bend).itemReleases .punch).gateOpens .punch
  have htold : (State.tellReturn (decide (s.sorter.state = .blocked)) _).line.Zoned :=
    hmoved.of_places (State.places_tellReturn _ _)
  exact htold.within.mergeGrants.of_places (State.places_haltBlocked _)

end

/-! ### The events and the requests -/

/-- Every effect but the gates, the releases and the merge leaves each item in its place, or takes one away. -/
theorem Effect.withinCapacity {f : State → State} (hf : Effect f) {s : State} (h : s.line.Zoned) :
    (f s).line.WithinCapacity := by
  cases hf with
  | gateOpen st => exact (h.gateOpens st).within
  | itemRelease st => exact (h.itemReleases st).within
  | mergeGrant => exact h.within.mergeGrants
  | arrival n => exact h.within.sublist (s.places_arrival n)
  | rawLevel n level => exact h.within.sublist (s.places_rawLevel n level)
  | index _ | emissionEnd _ | saturation _ | spacing => exact h.within.of_items
  | _ => exact h.within.of_places

theorem Applies.withinCapacity {a : State → Answer} (ha : Applies a) {s : State} (h : s.line.Zoned) :
    (a s).state.line.WithinCapacity := by
  cases ha with
  | lineStart =>
    unfold applyLineStart
    split
    · exact h.returnToRunning
    · exact h.within
  | lineResume d =>
    unfold applyLineResume
    repeat' split
    · exact h.within
    · exact h.within
    · exact h.within
    · exact h.returnToRunning
    · exact h.within
    · exact Line.Zoned.returnToRunning (h.sublist (s.places_removeItem _))
  | restart => exact h.within.sublist (by simp [applyRestart, State.restartLine, Line.places])
  | sensorSet n e f =>
    unfold applySensorSet
    repeat' split
    · exact h.within
    · exact h.within
    · exact h.within.sublist (s.places_configureInput _ _ _)
  | plateCancel p =>
    unfold applyPlateCancel
    repeat' split
    · exact h.within
    · exact h.within.of_items
    · exact h.within.of_items
    · exact h.within.of_places
    · exact h.within
  | windowLoad e lo hi =>
    unfold applyWindowLoad
    repeat' split
    all_goals exact h.within
  | _ =>
    refine h.within.of_places ?_
    simp only [applyPageOpen, applyPageAbandon, applyPageRelease, applyMapLoad, applyMapDelete, applySizeLoad,
      applyHold, applyLineHold, applyReplate, applyPressSet, applyLineAssign, applyPatternLoad, applyProfileLoad,
      applyCartLayout, applyTimingLoad, applyReportMask, applyImagerSet, applyStockSet, applyImagerClear, applyLineStop]
    repeat' split
    all_goals simp

/-- From different order numbers every step keeps the capacities; the last grant of a step may repeat a number. -/
theorem step_withinCapacity {s t : State} (h : s.line.Zoned) (ht : step s = .next t) : t.line.WithinCapacity := by
  rcases step_outcomes ht with rfl | ⟨cs, ho⟩
  · exact h.within.of_places
  · cases ho with
    | same => exact h.within
    | event f hf =>
      have heffect := hf.withinCapacity (s := { s with pending := cs }) h
      exact heffect.of_places
    | answer a q ha =>
      have hanswer := ha.withinCapacity (s := { s with pending := cs }) h
      exact hanswer.of_places (by simp [Answer.replied])
    | joins q => exact h.within.of_places
    | asserted => exact h.within.of_places
    | powerOn l a b => exact h.within.sublist (by simp)

end Sys2Proof.Machine
end


-- ==== Sys2Proof/Proofs/ExitBounds.lean ====
section
/-! PROOF. The counted exits of the sort station stay within their capacities, and a deposit is ordered to an exit with
room only (chapter 9, R176 to R180). With the capacities of the zones, every step keeps the bounds of the line. -/

namespace Sys2Proof.Machine

/-- No count passes its exit's capacity, and the exit of a deposit under way is not full (R176, R179). -/
structure Sorter.Bounded (r : Sorter) : Prop where
  counts : ∀ e, r.count e ≤ ExitName.capacity e
  room : r.state = .depositing → ∀ d e, r.destination = some d → d.exit = some e → r.full e = false

theorem Sorter.full_eq_false_iff {r : Sorter} (h : ∀ e, r.count e ≤ ExitName.capacity e) (e : ExitName) :
    r.full e = false ↔ r.count e < ExitName.capacity e := by
  rw [Sorter.full, decide_eq_false_iff_not]
  have := h e
  omega

theorem exitsBounded_iff (s : State) : ExitsBounded s ↔ s.sorter.Bounded := by
  constructor
  · rintro ⟨hrejects, hremakes, hroom⟩
    have hcounts : ∀ e, s.sorter.count e ≤ ExitName.capacity e := fun e => by
      cases e
      · exact hrejects
      · exact hremakes
    refine ⟨hcounts, fun hstate d e hd he => (Sorter.full_eq_false_iff hcounts e).mpr ?_⟩
    obtain ⟨hreject, hremake⟩ := hroom hstate
    cases d <;> cases he
    · exact hreject hd
    · exact hremake hd
  · intro h
    have hlt : ∀ d e, s.sorter.state = .depositing → s.sorter.destination = some d → d.exit = some e →
        s.sorter.count e < ExitName.capacity e := fun d e hstate hd he =>
      (Sorter.full_eq_false_iff h.counts e).mp (h.room hstate d e hd he)
    exact ⟨h.counts .reject, h.counts .remake, fun hstate =>
      ⟨fun hd => hlt .reject .reject hstate hd rfl, fun hd => hlt .remake .remake hstate hd rfl⟩⟩

namespace Sorter.Bounded

variable {r : Sorter} {s t : State}

/-! ### The Sorter Controller -/

/-- With no deposit under way the counts alone are bounded. -/
theorem of_counts (hstate : r.state ≠ .depositing) (h : ∀ e, r.count e ≤ ExitName.capacity e) : r.Bounded :=
  ⟨h, fun hdeposit => absurd hdeposit hstate⟩

theorem toIdle (h : ∀ e, r.count e ≤ ExitName.capacity e) : r.toIdle.Bounded := of_counts nofun h

theorem setCart (h : r.Bounded) (n : Nat) (c : Cart) : (r.setCart n c).Bounded := ⟨h.counts, h.room⟩

theorem emptied (h : r.Bounded) (x : ExitName) : (r.emptied x).Bounded := by
  have hcount : ∀ e, (r.emptied x).count e ≤ r.count e := fun e => by
    cases x <;> cases e <;> simp [Sorter.emptied, Sorter.count]
  have hcounts : ∀ e, (r.emptied x).count e ≤ ExitName.capacity e := fun e => (hcount e).trans (h.counts e)
  have hstate' : (r.emptied x).state = r.state := by cases x <;> rfl
  have hdest : (r.emptied x).destination = r.destination := by cases x <;> rfl
  refine ⟨hcounts, fun hstate d e hd he => (Sorter.full_eq_false_iff hcounts e).mpr ?_⟩
  have hroom := h.room (hstate' ▸ hstate) d e (hdest ▸ hd) he
  exact (hcount e).trans_lt ((Sorter.full_eq_false_iff h.counts e).mp hroom)

/-- A deposit takes the place that its exit had for it (R181). -/
theorem deposited (h : r.Bounded) {d : Destination} (hstate : r.state = .depositing) (hd : r.destination = some d) :
    (r.deposited d).toIdle.Bounded := by
  refine toIdle fun e => ?_
  have hlt : ∀ x, d.exit = some x → r.count x < ExitName.capacity x := fun x hx =>
    (Sorter.full_eq_false_iff h.counts x).mp (h.room hstate d x hd hx)
  cases d with
  | reject =>
    cases e with
    | reject => exact hlt .reject rfl
    | remake => exact h.counts .remake
  | remake =>
    cases e with
    | reject => exact h.counts .reject
    | remake => exact hlt .remake rfl
  | cart n slot =>
    have hcount : (r.deposited (.cart n slot)).count e = r.count e := by
      unfold Sorter.deposited
      dsimp only
      split <;> rfl
    exact hcount ▸ h.counts e

/-! ### The operations of the line and the station -/

/-- Changes of anything but the Sorter Controller. -/
theorem frame (h : s.sorter.Bounded) (ht : t.sorter = s.sorter := by simp) : t.sorter.Bounded := ht ▸ h

/-- A destination is fixed: a full exit blocks the station, and an exit with room takes the deposit (R179, R180). -/
theorem fixDestination (h : s.sorter.Bounded) (n : Nat) (d : Destination) (v : Option Divert) (redirected : Bool) :
    (s.fixDestination n d v redirected).sorter.Bounded := by
  unfold State.fixDestination
  dsimp only
  split
  · exact of_counts nofun h.counts
  · rename_i hroom
    refine ⟨h.counts, fun _ d' e hd he => ?_⟩
    obtain rfl := Option.some.inj hd
    rw [he] at hroom
    exact Bool.eq_false_iff.mpr hroom

theorem decideFor (h : s.sorter.Bounded) (it : Item) : (s.decideFor it).sorter.Bounded := by
  unfold State.decideFor
  split
  · exact h.fixDestination _ _ _ _
  · split
    · exact fixDestination h.frame _ _ _ _
    · exact h.fixDestination _ _ _ _

theorem sortTakes (h : s.sorter.Bounded) : s.sortTakes.sorter.Bounded := by
  unfold State.sortTakes
  split
  · split
    · exact decideFor h.frame _
    · exact h
  · exact h

theorem sortEntry (h : s.sorter.Bounded) : s.sortEntry.sorter.Bounded := by
  unfold State.sortEntry
  split
  · exact h.sortTakes.frame
  · exact h

theorem takeNotices (h : s.sorter.Bounded) : s.takeNotices.sorter.Bounded := sortTakes h.frame

theorem moveWaiting (h : s.sorter.Bounded) : s.moveWaiting.sorter.Bounded := h.frame

theorem sorterReturns (h : s.sorter.Bounded) : s.sorterReturns.sorter.Bounded := by
  unfold State.sorterReturns
  split
  · exact h.decideFor _
  · exact h

theorem tellReturn (h : s.sorter.Bounded) (blocked : Bool) : (s.tellReturn blocked).sorter.Bounded := by
  unfold State.tellReturn
  split
  · exact sorterReturns h.frame
  · exact h.frame

theorem returnToRunning (h : s.sorter.Bounded) : s.returnToRunning.sorter.Bounded := by
  have hstarted : (State.startToGates { s with line := s.line.returned s.now }).sorter.Bounded := h.frame (by simp)
  have htold := hstarted.takeNotices.moveWaiting.tellReturn (decide (s.sorter.state = .blocked))
  unfold State.returnToRunning
  exact htold.frame

theorem removeItem (h : s.sorter.Bounded) (it : Item) : (s.removeItem it).sorter.Bounded := by
  have htold : ((s.deleteItem it.order).tellRemoved it).sorter.Bounded := by
    unfold State.tellRemoved
    split
    · split <;> exact h.frame
    · exact h.frame
    · exact h.frame
    · exact toIdle h.counts
    · exact h
  unfold State.removeItem
  split
  · exact htold.frame
  · exact htold

theorem depositItem (h : s.sorter.Bounded) (it : Item) (time : Nat) : (s.depositItem it time).sorter.Bounded := by
  unfold State.depositItem
  dsimp only
  split
  · rename_i d hstate hd
    have hidle := deposited (h.frame (t := s.deleteItem it.order)) hstate hd
    simpa using hidle
  · exact h

theorem matched (h : s.sorter.Bounded) (it : Item) (k : WindowKind) (time : Nat) :
    (s.matched it k time).sorter.Bounded := by
  cases k with
  | deposit => exact h.depositItem it time
  | _ => exact h.frame (by simp [State.matched])

theorem lineArrival (h : s.sorter.Bounded) (x : LineSensor) (time : Nat) :
    (s.lineArrival x time).sorter.Bounded := by
  unfold State.lineArrival
  split
  · exact h.frame
  · rename_i it _
    split
    · exact h
    · rename_i w _
      split
      · exact (h.matched it w.kind time).frame
      · exact h.frame

/-! ### The inputs (R97, R99, R176) -/

theorem takeArrival (h : s.sorter.Bounded) (n time : Nat) : (s.takeArrival n time).sorter.Bounded := by
  unfold State.takeArrival
  split
  · exact h.lineArrival _ _
  · split_ifs
    · exact h.frame
    · exact h.frame
    · exact h.frame
    · exact h.frame
    · exact h.setCart _ _
    · exact h.emptied .reject
    · exact h.emptied .remake
    · exact h

theorem arrival (h : s.sorter.Bounded) (n : Nat) : (s.arrival n).sorter.Bounded := by
  unfold State.arrival
  split
  · exact takeArrival h.frame _ _
  · exact h

theorem departure (h : s.sorter.Bounded) (n : Nat) : (s.departure n).sorter.Bounded := by
  have haccepted : (s.acceptInput n).sorter.Bounded := h.frame
  unfold State.departure
  dsimp only
  split_ifs
  · exact haccepted.setCart _ _
  · exact haccepted
  · exact h

theorem settle (h : s.sorter.Bounded) (n : Nat) : (s.settle n).sorter.Bounded := by
  unfold State.settle
  split
  · exact ((h.arrival n).departure n).frame
  · exact h

theorem rawLevel (h : s.sorter.Bounded) (n : Nat) (level : Bool) : (s.rawLevel n level).sorter.Bounded := by
  unfold State.rawLevel
  split
  · exact h.settle n
  · exact h

theorem configureInput (h : s.sorter.Bounded) (n : Nat) (rising : Bool) (filter : Nat) :
    (s.configureInput n rising filter).sorter.Bounded := by
  unfold State.configureInput
  dsimp only
  split_ifs
  · exact (h.settle n).setCart _ _
  · exact (h.settle n).setCart _ _
  · exact h.settle n

end Sorter.Bounded

/-! ### The events and the requests -/

theorem Effect.sorterBounded {f : State → State} (hf : Effect f) (s : State) (h : s.sorter.Bounded) :
    (f s).sorter.Bounded := by
  cases hf with
  | arrival n => exact h.arrival n
  | departure n => exact h.departure n
  | sortEntry => exact h.sortEntry
  | rawLevel n level => exact h.rawLevel n level
  | _ => exact h.frame

theorem Applies.sorterBounded {a : State → Answer} (ha : Applies a) (s : State) (h : s.sorter.Bounded) :
    (a s).state.sorter.Bounded := by
  cases ha with
  | lineStart =>
    unfold applyLineStart
    split
    · exact h.returnToRunning
    · exact h
  | lineResume d =>
    unfold applyLineResume
    repeat' split
    · exact h
    · exact h
    · exact h
    · exact h.returnToRunning
    · exact h
    · exact (h.removeItem _).returnToRunning
  | sensorSet n e f =>
    unfold applySensorSet
    repeat' split
    · exact h
    · exact h
    · exact h.configureInput _ _ _
  | cartLayout c u a =>
    unfold applyCartLayout
    dsimp only
    repeat' split
    · exact h
    · exact h
    · exact h.setCart _ _
  | restart =>
    have hidle : (applyRestart s).state.sorter = s.sorter.toIdle := by
      simp [applyRestart, State.restartLine, State.sorterRemoved]
    exact hidle ▸ .toIdle h.counts
  | _ =>
    refine h.frame ?_
    simp only [applyPageOpen, applyPageAbandon, applyPageRelease, applyMapLoad, applyMapDelete, applySizeLoad,
      applyHold, applyLineHold, applyPlateCancel, applyReplate, applyPressSet, applyLineAssign, applyPatternLoad,
      applyProfileLoad, applyWindowLoad, applyTimingLoad, applyReportMask, applyImagerSet, applyStockSet,
      applyImagerClear, applyLineStop]
    repeat' split
    all_goals simp

/-- After power-on reset the exits are empty and no deposit is under way; the carts found attached change neither. -/
theorem State.powerOn_sorterBounded (s : State) (l : BitVec 32) (a b : Phase) : (s.powerOn l a b).sorter.Bounded := by
  have hattach : ∀ (f : Nat → Bool) (ns : List Nat) (r : Sorter), r.Bounded →
      (ns.foldl (fun t n => if f n = true then t.attach n else t) r).Bounded := fun f ns => by
    induction ns with
    | nil => exact fun _ h => h
    | cons n ns ih =>
      intro r h
      refine ih _ ?_
      dsimp only
      split
      · exact h.setCart _ _
      · exact h
  rw [State.powerOn, State.attachFound_eq]
  exact hattach _ _ _ (.of_counts nofun fun e => by cases e <;> exact Nat.zero_le _)

theorem step_sorterBounded {s t : State} (h : s.sorter.Bounded) (ht : step s = .next t) : t.sorter.Bounded :=
  step_keeps (P := fun s => s.sorter.Bounded)
    (pending := fun _ _ h => h)
    (requests := fun _ _ h => h)
    (replies := fun _ _ h => h)
    (pump := fun _ h => h.frame)
    (pass := fun _ h => h.frame)
    (tick := fun _ h => h.frame)
    (asserted := fun _ h => ⟨h.counts, h.room⟩)
    (power := fun s l a b _ => s.powerOn_sorterBounded l a b)
    (effect := fun _ hf s h => hf.sorterBounded s h)
    (applies := fun _ ha s h => ha.sorterBounded s h)
    h ht

/-- Settles O9: the exits by `step_sorterBounded`, the zones by `step_withinCapacity`. -/
theorem stepKeepsExitBounds : Obligations.StepKeepsExitBounds := by
  refine ⟨fun s t h ht => ?_, fun s t horders h ht => ?_, fun s h => ?_⟩
  · rw [exitsBounded_iff] at h ⊢
    exact step_sorterBounded h ht
  · rw [zonesBounded_iff] at h ⊢
    exact step_withinCapacity ⟨horders, h⟩ ht
  · exact ((zonesBounded_iff s).mp h).length_items

end Sys2Proof.Machine
end


-- ==== Sys2Proof/Proofs/LineHalts.lean ====
section
/-! PROOF. A halt cause in the three states of the line, and the tables of the line, of the times and of the report mask
(chapters 7 and 10). -/

namespace Sys2Proof.Machine

/-! ### The halt (R147, R148) -/

section
variable {s : State} (cause : HaltCause) (order sensor : Option Nat) (exit : Option ExitName)

/-- The item of a halt as its record names it, absent when it is no longer on the line (R147, R156). -/
def State.haltItem (s : State) (order : Option Nat) : Option HaltItem := (order.bind s.item).map Item.halted

theorem State.haltLine_running (h : s.line.state = .running) :
    s.haltLine cause order sensor exit =
      let r := haltRecord cause (s.haltItem order) sensor exit s.now
      State.raise .line (.line ⟨r, .halted⟩) { s with
        line := s.line.halted r s.now
        punch := { s.punch with halted := true }
        bend := { s.bend with halted := true } } := by
  unfold State.haltLine
  rw [h]
  rfl

theorem State.haltLine_halted {r : HaltRecord} (h : s.line.state = .halted) (hr : s.line.halt = some r) :
    s.haltLine cause order sensor exit =
      let r := r.furtherHalt cause (s.haltItem order) sensor
      State.raise .line (.line ⟨r, .halted⟩) { s with line := { s.line with halt := some r } } := by
  unfold State.haltLine
  rw [h, hr]
  rfl

theorem State.haltLine_stopped (h : s.line.state = .stopped) : s.haltLine cause order sensor exit = s := by
  unfold State.haltLine
  rw [h]

end

/-- The count of further halts stops at 255 (R148). -/
theorem min_succ_255 (n : Nat) : min (n + 1) 255 = if n < 255 then n + 1 else 255 := by
  split <;> omega

/-- Settles O45: a halt in each state of the line (`State.haltLine_running`, `State.haltLine_halted`,
`State.haltLine_stopped`). -/
theorem lineHalts : Obligations.LineHalts := by
  intro cause order sensor exit s now item first frozen
  have hitem : s.haltItem order = item := by
    unfold State.haltItem item
    cases order with
    | none => rfl
    | some n =>
      show (s.item n).map Item.halted = _
      unfold State.item
      dsimp only
      cases s.line.items.find? fun it => decide (it.order = n) <;> rfl
  refine ⟨fun h => ?_, fun r h hr => ?_, fun h => State.haltLine_stopped cause order sensor exit h⟩
  · rw [State.haltLine_running cause order sensor exit h, hitem]
    rfl
  · rw [State.haltLine_halted cause order sensor exit h hr, hitem, HaltRecord.furtherHalt, min_succ_255]
    rfl

/-! ### The tables (R134, R192, R193) -/

theorem applyWindowLoad_eq (entry lo hi : Nat) (s : State) :
    applyWindowLoad entry lo hi s =
      if 8 < entry ∨ hi = 0 ∨ 65535 < hi ∨ (entry ≠ 8 ∧ hi < lo) then refuse .range s
      else if entry = 8 then accept { s with line := { s.line with table := { s.line.table with spacing := hi } } }
      else accept { s with line := { s.line with table := { s.line.table with
        kinds := s.line.table.kinds.set entry ⟨lo, hi⟩ } } } := by
  have hrange : (!(decide (entry ≤ 8) && decide (1 ≤ hi) && decide (hi ≤ 65535))) = true ↔
      8 < entry ∨ hi = 0 ∨ 65535 < hi := by
    simp only [Bool.not_eq_true', ← Bool.not_eq_true, Bool.and_eq_true, decide_eq_true_eq]
    omega
  rw [applyWindowLoad]
  simp only [hrange]
  by_cases hbad : 8 < entry ∨ hi = 0 ∨ 65535 < hi
  · rw [if_pos hbad, if_pos (hbad.imp_right (Or.imp_right .inl))]
  · rw [if_neg hbad]
    by_cases hspacing : entry = 8
    · rw [if_pos hspacing, if_pos hspacing, if_neg (by tauto)]
    · rw [if_neg hspacing, if_neg hspacing]
      exact if_congr (by tauto) rfl rfl

theorem applyTimingLoad_eq (entry v : Nat) (s : State) :
    applyTimingLoad entry v s =
      if 4 < entry ∨ v = 0 ∨ 65535 < v ∨ (entry = 0 ∧ 60000 < v) then refuse .range s
      else accept { s with link := { s.link with timing := s.link.timing.put entry v } } := by
  match entry with
  | 0 => exact if_congr (show v = 0 ∨ 60000 < v ↔ _ by omega) rfl rfl
  | 1 | 2 | 3 | 4 => exact if_congr (show v = 0 ∨ 65535 < v ↔ _ by omega) rfl rfl
  | n + 5 => exact (if_pos (.inl (by omega))).symm

theorem Timing.put_eq (g : Timing) {entry : Nat} (h : ¬ 4 < entry) (v : Nat) :
    g.put entry v =
      if entry = 0 then { g with receive := v }
      else if entry = 1 then { g with load := v }
      else if entry = 2 then { g with spinup := v }
      else if entry = 3 then { g with die := v }
      else { g with bend := v } := by
  match entry with
  | 0 | 1 | 2 | 3 | 4 => rfl
  | n + 5 => omega

/-- Settles O43. -/
theorem windowTimingAndMaskLoaded : Obligations.WindowTimingAndMaskLoaded := by
  intro tag entry lo hi v level s window timing mask g
  refine ⟨fun hready => ?window, fun hready => ?timing, fun hready => ?mask⟩
  case window =>
    refine (request_answers hready).trans (congrArg _ ?_)
    rw [applyWindowLoad_eq]
    exact Answer.answering_ite Iff.rfl rfl fun _ => Answer.answering_ite Iff.rfl rfl fun _ => rfl
  case timing =>
    refine (request_answers hready).trans (congrArg _ ?_)
    rw [applyTimingLoad_eq]
    refine Answer.answering_ite Iff.rfl rfl fun hrange => ?_
    rw [Timing.put_eq _ (mt .inl hrange)]
    rfl
  case mask =>
    refine (request_answers hready).trans (congrArg _ ?_)
    exact Answer.answering_ite Iff.rfl rfl fun _ => rfl

end Sys2Proof.Machine
end


-- ==== Sys2Proof/Proofs/LineReturns.lean ====
section
/-! PROOF. The line's return to RUNNING, in its steps: the windows and the outputs, the notices, the moves, the PAUSED
stations, the BLOCKED sort station (chapters 7 to 9, R153). -/

namespace Sys2Proof.Machine

variable {s : State} {n : Nat}

/-! ### The Line Tracker (R131, R135, R143) -/

theorem Line.enteringGate_eq (l : Line) (st : Station) :
    l.enteringGate st = l.items.any fun it => decide (it.zone = st.zone ∧ it.location = .entering) := by
  simp only [Line.enteringGate, Line.inZone, List.any_filter, Bool.decide_and]

theorem Line.returned_eq (l : Line) (now : Nat) :
    l.returned now =
      let entering : Zone → Bool := fun z => l.items.any fun it => decide (it.zone = z ∧ it.location = .entering)
      { l with
        state := .running, halt := none,
        out := ⟨true, true, true, entering .punch, entering .bend, entering .sort⟩,
        items := l.items.map (l.resumeItem now) } := by
  rw [Line.returned, Line.runningOut, Line.enteringGate_eq, Line.enteringGate_eq, Line.enteringGate_eq]
  rfl

/-! ### The stations (R165, R170, R184) -/

theorem State.itemRetired_iff :
    s.itemRetired n = true ↔ ∃ it, s.item n = some it ∧ it.cause ≠ .none_ := by
  unfold State.itemRetired
  cases s.item n <;> simp

theorem State.punchReturns_paused (hstate : s.punch.state = .paused) (hitem : s.punch.item = some n) :
    s.punchReturns =
      let u : State := { s with punch := { s.punch with halted := false } }
      if s.itemRetired n = true then u.punchFinishes n else u.orderDie := by
  unfold State.punchReturns
  dsimp only
  rw [hstate, hitem]
  rfl

theorem State.punchReturns_other (h : s.punch.state = .paused → s.punch.item = none) :
    s.punchReturns = { s with punch := { s.punch with halted := false } } := by
  unfold State.punchReturns
  dsimp only
  split
  · rename_i hstate hitem
    exact absurd ((h hstate).symm.trans hitem) nofun
  · rfl

theorem State.bendReturns_paused (hstate : s.bend.state = .paused) (hitem : s.bend.item = some n) :
    s.bendReturns =
      let u : State := { s with bend := { s.bend with halted := false } }
      if s.itemRetired n = true then u.bendFinishes n else u.orderBend .tail := by
  unfold State.bendReturns
  dsimp only
  rw [hstate, hitem]
  rfl

theorem State.bendReturns_other (h : s.bend.state = .paused → s.bend.item = none) :
    s.bendReturns = { s with bend := { s.bend with halted := false } } := by
  unfold State.bendReturns
  dsimp only
  split
  · rename_i hstate hitem
    exact absurd ((h hstate).symm.trans hitem) nofun
  · rfl

theorem Punch.orderDie_eq (p : Punch) (now timeout : Nat) :
    p.orderDie now timeout =
      let die := (match p.pattern with
        | some dies => dies
        | none => []).getD p.nextDie 0
      { p with
        state := .stroking, die := some die, dies := p.dies.set die true, start := some now,
        deadline := some ((now + timeout) % 4294967296), nextDie := p.nextDie + 1 } := by
  unfold Punch.orderDie
  cases p.pattern <;> rfl

theorem State.orderDie_eq {now : Nat} (hnow : s.clock.time = now) :
    s.orderDie =
      let die := (match s.punch.pattern with
        | some dies => dies
        | none => []).getD s.punch.nextDie 0
      { s with punch := { s.punch with
        state := .stroking, die := some die, dies := s.punch.dies.set die true, start := some now,
        deadline := some ((now + s.link.timing.die) % 4294967296), nextDie := s.punch.nextDie + 1 } } := by
  subst hnow
  exact congrArg (fun p => { s with punch := p }) (s.punch.orderDie_eq _ _)

theorem State.orderBend_tail {now : Nat} (hnow : s.clock.time = now) :
    s.orderBend .tail = { s with bend := { s.bend with
      state := .bending, bend := some .tail, outTail := true, start := some now,
      deadline := some ((now + s.link.timing.bend) % 4294967296) } } := by
  subst hnow
  rfl

/-- The sort station takes its item up again, when it is still on the line (R184). -/
theorem State.sorterReturns_eq (s : State) :
    s.sorterReturns = match s.sorter.item with
      | none => s
      | some n => match s.line.items.find? fun it => decide (it.order = n) with
        | some it => s.decideFor it
        | none => s := by
  unfold State.sorterReturns State.item
  cases s.sorter.item <;> rfl

/-- Settles O50: the steps of the return in their order, the stations' by `State.punchReturns_paused`,
`State.bendReturns_paused` and `State.sorterReturns_eq`. -/
theorem lineReturnsToRunning : Obligations.LineReturnsToRunning := by
  intro s now entering fresh finished started taken u retired v w x
  have hstarted : State.startToGates { s with line := s.line.returned s.now } = started := by
    rw [Line.returned_eq]
    rfl
  have hreturn : s.returnToRunning =
      (u.tellReturn (decide (s.sorter.state = .blocked))).mergeGrants.haltBlocked := by
    rw [State.returnToRunning, hstarted]
    rfl
  have hretired : ∀ n y, State.itemRetired y n = true ↔ retired n y := fun n y => State.itemRetired_iff
  have hunow : u.clock.time = now := by simp [u, taken, started, now]
  clear_value u
  have hpunch : u.punchReturns = v := by
    unfold v
    split
    · rename_i n hstate hitem
      rw [State.punchReturns_paused hstate hitem]
      exact if_congr (hretired n u) rfl (State.orderDie_eq hunow)
    · rename_i hother
      exact State.punchReturns_other fun hstate => Option.eq_none_iff_forall_ne_some.mpr (hother · hstate)
  clear_value v
  have hvnow : v.clock.time = now := by
    have hclock : u.punchReturns.clock = u.clock := by simp
    rw [← hpunch, hclock, hunow]
  have hbend : v.bendReturns = w := by
    unfold w
    split
    · rename_i n hstate hitem
      rw [State.bendReturns_paused hstate hitem]
      exact if_congr (hretired n v) rfl (State.orderBend_tail hvnow)
    · rename_i hother
      exact State.bendReturns_other fun hstate => Option.eq_none_iff_forall_ne_some.mpr (hother · hstate)
  have hsort : (if decide (s.sorter.state = .blocked) = true then w.sorterReturns else w) = x := by
    rw [State.sorterReturns_eq, ← ite_not]
    exact if_congr (not_congr decide_eq_true_iff) rfl rfl
  rw [hreturn, State.tellReturn, hpunch, hbend]
  exact congrArg (fun y : State => y.mergeGrants.haltBlocked) hsort

end Sys2Proof.Machine
end


-- ==== Sys2Proof/Proofs/StationTables.lean ====
section
/-! PROOF. The requests that load the tables of the stations: presses, patterns, profiles, cart layouts (chapters 8
and 9). -/

namespace Sys2Proof.Machine

/-! ### The ranges (R157 to R159, R173) -/

theorem fansBad_iff (fans : List Int) : ¬ fans.all fanOk = true ↔ ∃ f ∈ fans, f < -2000 ∨ 2000 < f := by
  simp only [List.all_eq_true, fanOk, Bool.and_eq_true, decide_eq_true_eq, not_forall, exists_prop, not_and_or, not_le]

theorem diesBad_iff (dies : List Nat) : ¬ dies.all (fun n => decide (n ≤ 11)) = true ↔ ∃ d ∈ dies, 11 < d := by
  simp only [List.all_eq_true, decide_eq_true_eq, not_forall, exists_prop, not_le]

theorem pressBad_iff (n a b : Nat) (fans : List Int) :
    (!(decide (n ≤ 5) && decide (a ≤ 15) && decide (b ≤ 7) && fans.all fanOk)) = true ↔
      5 < n ∨ 15 < a ∨ 7 < b ∨ ∃ f ∈ fans, f < -2000 ∨ 2000 < f := by
  simp only [Bool.not_eq_true', ← Bool.not_eq_true, Bool.and_eq_true, decide_eq_true_eq, not_and_or, not_le,
    fansBad_iff, or_assoc]

theorem patternBad_iff (n : Nat) (dies : List Nat) :
    (!(decide (n ≤ 15) && decide (1 ≤ dies.length) && decide (dies.length ≤ 8) &&
      dies.all (fun n => decide (n ≤ 11)) && decide dies.Nodup)) = true ↔
      15 < n ∨ dies.length = 0 ∨ 8 < dies.length ∨ (∃ d ∈ dies, 11 < d) ∨ ¬ dies.Nodup := by
  simp only [Bool.not_eq_true', ← Bool.not_eq_true, Bool.and_eq_true, decide_eq_true_eq, not_and_or, not_le,
    diesBad_iff, or_assoc, Nat.lt_one_iff]

/-- With units and acrosses in their ranges a layout has at most the 96 slots of a cart (R173, R174). -/
theorem slots_le_maxSlots {units acrosses : Nat} (hu : units ≤ 12) (ha : acrosses ≤ 4) :
    units * 2 * acrosses ≤ Config.maxSlots :=
  Nat.mul_le_mul (Nat.mul_le_mul_right 2 hu) ha

theorem layoutBad_iff (n a b : Nat) :
    (!(decide (n ≤ 5) && decide (1 ≤ a) && decide (a ≤ 12) && decide (1 ≤ b) && decide (b ≤ 4))) = true ↔
      5 < n ∨ a = 0 ∨ 12 < a ∨ b = 0 ∨ 4 < b := by
  simp only [Bool.not_eq_true', ← Bool.not_eq_true, Bool.and_eq_true, decide_eq_true_eq, not_and_or, not_le,
    or_assoc, Nat.lt_one_iff]

/-! ### The requests -/

theorem flagOf_none {n : Nat} (h : 1 < n) : flagOf n = none := by
  match n with
  | n + 2 => rfl

theorem flagOf_le {n : Nat} (h : n ≤ 1) : flagOf n = some (decide (n = 1)) := by
  interval_cases n <;> rfl

theorem applyProfileLoad_eq (n a b : Nat) (s : State) :
    applyProfileLoad n a b s =
      if 7 < n ∨ 1 < a ∨ 1 < b then refuse .range s
      else accept { s with bend := { s.bend with
        profiles := s.bend.profiles.set n (some ⟨decide (a = 1), decide (b = 1)⟩) } } := by
  unfold applyProfileLoad
  by_cases ha : 1 < a
  · rw [flagOf_none ha, if_pos (.inr (.inl ha))]
  · rw [flagOf_le (not_lt.mp ha)]
    by_cases hb : 1 < b
    · rw [flagOf_none hb, if_pos (.inr (.inr hb))]
    · rw [flagOf_le (not_lt.mp hb)]
      exact if_congr (by tauto) rfl rfl

theorem applyCartLayout_eq (n a b : Nat) (s : State) :
    applyCartLayout n a b s =
      if 5 < n ∨ a = 0 ∨ 12 < a ∨ b = 0 ∨ 4 < b then refuse .range s
      else
        let cart : Cart := { s.sorter.cart n with layout := some ⟨a, b⟩, occupancy := [] }
        accept { s with sorter := s.sorter.setCart n cart } := by
  rw [applyCartLayout, if_congr (layoutBad_iff n a b) rfl rfl]
  by_cases h : 5 < n ∨ a = 0 ∨ 12 < a ∨ b = 0 ∨ 4 < b
  · rw [if_pos h, if_pos h]
  · rw [if_neg h, if_neg h, if_neg (not_lt.mpr (slots_le_maxSlots (by omega) (by omega)))]

/-- Settles O44: the refusals in their order (`Answer.answering_ite`). -/
theorem stationTablesLoaded : Obligations.StationTablesLoaded := by
  intro tag n a b fans dies s press pattern profile layout
  refine ⟨fun hready => ?press, fun hready => ?pattern, fun hready => ?profile, fun hready => ?layout⟩
  case press =>
    have hmissing : ((s.punch.patterns.getD a none).isNone || (s.bend.profiles.getD b none).isNone) = true ↔
        s.punch.patterns.getD a none = none ∨ s.bend.profiles.getD b none = none := by
      rw [Bool.or_eq_true, Option.isNone_iff_eq_none, Option.isNone_iff_eq_none]
    refine (request_answers hready).trans (congrArg _ ?_)
    exact Answer.answering_ite (pressBad_iff n a b fans) rfl fun _ => Answer.answering_ite hmissing rfl fun _ => rfl
  case pattern =>
    refine (request_answers hready).trans (congrArg _ ?_)
    exact Answer.answering_ite (patternBad_iff n dies) rfl fun _ => rfl
  case profile =>
    refine (request_answers hready).trans (congrArg _ ?_)
    rw [applyProfileLoad_eq]
    exact Answer.answering_ite Iff.rfl rfl fun _ => rfl
  case layout =>
    refine (request_answers hready).trans (congrArg _ ?_)
    rw [applyCartLayout_eq]
    exact Answer.answering_ite Iff.rfl rfl fun _ => rfl

end Sys2Proof.Machine
end


-- ==== Sys2Proof/Proofs/StationWork.lean ====
section
/-! PROOF. The work of the Punch Controller and of the Bend Controller: the entry notices, and the arrivals that
complete a stroke (chapter 8). -/

namespace Sys2Proof.Machine

variable {s : State} {it j : Item}

/-! ### The entry notice (R143) -/

/-- A station has no notice to give for want of an item, or for what its item shows. -/
theorem Line.noticed_eq_none {l : Line} {st : Station}
    (h : (l.items.find? fun j => decide (j.zone = st.zone)) = none ∨
      ∃ it, (l.items.find? fun j => decide (j.zone = st.zone)) = some it ∧
        (it.location ≠ .inStation ∨ it.work ≠ some .working ∨ it.entryTime = none)) :
    l.noticed st = none := by
  rw [Line.noticed, Line.stationItem_eq]
  rcases h with hnone | ⟨it, hit, hwait⟩
  · rw [hnone]
  · rw [hit]
    refine if_neg fun ⟨hloc, hwork, htime⟩ => ?_
    rcases hwait with hloc' | hwork' | htime'
    · exact hloc' hloc
    · exact hwork' hwork
    · rw [htime'] at htime
      exact Bool.false_ne_true htime

theorem Line.noticed_eq_some {l : Line} {st : Station} {stamp : Nat}
    (hit : (l.items.find? fun j => decide (j.zone = st.zone)) = some it) (hloc : it.location = .inStation)
    (hwork : it.work = some .working) (htime : it.entryTime = some stamp) : l.noticed st = some it := by
  rw [Line.noticed, Line.stationItem_eq, hit]
  exact if_pos ⟨hloc, hwork, Option.isSome_iff_exists.mpr ⟨stamp, htime⟩⟩

/-! ### The item changed (R132) -/

theorem State.item_modifyItem (n : Nat) {f : Item → Item} (hf : ∀ j, (f j).order = j.order) (s : State) :
    (s.modifyItem n f).item n = (s.item n).map f := by
  have hkeep : ∀ j : Item, (if j.order = n then f j else j).order = j.order := fun j => by
    split
    · exact hf j
    · rfl
  simp only [State.item, State.modifyItem, Line.modifyItem, List.find?_map, Function.comp_def, hkeep]
  cases hit : s.line.items.find? fun j => decide (j.order = n) with
  | none => rfl
  | some j => exact congrArg some (if_pos (by simpa using List.find?_some hit))

theorem State.item_noticeTaken (hit : s.item it.order = some it) :
    (s.noticeTaken it.order).item it.order = some { it with entryTime := none } := by
  rw [State.noticeTaken, State.item_modifyItem, hit]
  · rfl
  · exact fun _ => rfl

theorem State.item_retireItem {n : Nat} {cause : Cause} (hit : s.item n = some it) (hcause : it.cause = .none_) :
    (s.retireItem n cause).item n = some { it with cause := cause } := by
  rw [State.retireItem, State.item_modifyItem, hit]
  · exact congrArg some (if_pos hcause)
  · intro j
    split <;> rfl

/-! ### The Punch Controller takes a notice (R161) -/

theorem State.punchEntry_waits (h : s.line.state ≠ .running ∨ s.punch.state ≠ .idle ∨ s.line.noticed .punch = none) :
    s.punchEntry = s := by
  unfold State.punchEntry
  split
  · rename_i hready
    rcases h with hline | hpunch | hnone
    · exact absurd hready.1 hline
    · exact absurd hready.2 hpunch
    · rw [hnone]
  · rfl

theorem State.punchEntry_takes (hline : s.line.state = .running) (hpunch : s.punch.state = .idle)
    (hit : s.line.noticed .punch = some it) : s.punchEntry = s.punchTakes it := by
  rw [State.punchEntry, if_pos ⟨hline, hpunch⟩, hit]

/-- What the Punch Controller does with the item whose notice it has taken: it finishes with a retired one, and orders
the first die for another (R161). -/
def State.punchStarts (it : Item) (s : State) : State :=
  if s.itemRetired it.order then s.finishWork it.order
  else
    let pattern := ((s.press it.press).bind fun p => s.punch.patterns.getD p.pattern none).getD []
    State.orderDie { s with punch := { s.punch with item := some it.order, pattern := some pattern, nextDie := 0 } }

theorem State.punchTakes_eq (it : Item) (s : State) :
    s.punchTakes it = State.punchStarts it (
      if it.cause = .none_ ∧ s.assigned it.plate.line ≠ some it.press then
        (s.noticeTaken it.order).retireForReplacement it.order .redirected
      else s.noticeTaken it.order) := rfl

theorem State.punchStarts_retired (hit : s.item it.order = some j) (hcause : j.cause ≠ .none_) :
    s.punchStarts it = s.finishWork it.order :=
  if_pos (State.itemRetired_iff.mpr ⟨j, hit, hcause⟩)

theorem State.punchStarts_current (hit : s.item it.order = some j) (hcause : j.cause = .none_) {e : Press}
    (he : s.press it.press = some e) {dies : List Nat} (hdies : s.punch.patterns.getD e.pattern none = some dies) :
    s.punchStarts it = State.orderDie { s with
      punch := { s.punch with item := some it.order, pattern := some dies, nextDie := 0 } } := by
  have hcurrent : ¬ s.itemRetired it.order = true := fun h => by
    obtain ⟨k, hk, hretired⟩ := State.itemRetired_iff.mp h
    obtain rfl := Option.some.inj (hit.symm.trans hk)
    exact hretired hcause
  rw [State.punchStarts, if_neg hcurrent, he, Option.bind_some, hdies, Option.getD_some]

/-- An item retired before its entry is finished with at once. -/
theorem State.punchTakes_retired (hit : s.item it.order = some it) (hcause : it.cause ≠ .none_) :
    s.punchTakes it = (s.noticeTaken it.order).finishWork it.order := by
  rw [State.punchTakes_eq, if_neg fun h => hcause h.1]
  exact State.punchStarts_retired (State.item_noticeTaken hit) hcause

/-- An item of another press than its line's is retired REDIRECTED, and so finished with. -/
theorem State.punchTakes_redirected (hit : s.item it.order = some it) (hcause : it.cause = .none_)
    (hpress : s.assigned it.plate.line ≠ some it.press) :
    s.punchTakes it =
      (((s.noticeTaken it.order).retireItem it.order .redirected).needCheck it.plate none).finishWork it.order := by
  have hheard := State.item_noticeTaken hit
  have hretires : (s.noticeTaken it.order).retireForReplacement it.order .redirected =
      ((s.noticeTaken it.order).retireItem it.order .redirected).needCheck it.plate none :=
    (State.retireForReplacement_eq hheard _).trans (if_pos hcause)
  have hitem : (((s.noticeTaken it.order).retireItem it.order .redirected).needCheck it.plate none).item it.order =
      some { it with entryTime := none, cause := .redirected } := by
    have hretire := State.item_retireItem (cause := .redirected) hheard hcause
    simpa [State.item] using hretire
  rw [State.punchTakes_eq, if_pos ⟨hcause, hpress⟩, hretires]
  exact State.punchStarts_retired hitem nofun

/-- A current item of its line's press gets its pattern copied and the first die ordered. -/
theorem State.punchTakes_orders (hit : s.item it.order = some it) (hcause : it.cause = .none_)
    (hpress : s.assigned it.plate.line = some it.press) {e : Press} (he : s.press it.press = some e) {dies : List Nat}
    (hdies : s.punch.patterns.getD e.pattern none = some dies) :
    s.punchTakes it =
      State.orderDie { s.noticeTaken it.order with
        punch := { s.punch with item := some it.order, pattern := some dies, nextDie := 0 } } := by
  rw [State.punchTakes_eq, if_neg fun h => h.2 hpress]
  exact State.punchStarts_current (State.item_noticeTaken hit) hcause he hdies

/-! ### A die comes home (R162, R163) -/

theorem lineSensorAt_dieInput {n : Nat} (hn : n ≤ 11) : lineSensorAt (11 + n) = none := by
  interval_cases n <;> rfl

/-- The arrival at a die's input is the Punch Controller's. -/
theorem State.takeArrival_dieInput {n : Nat} (hn : n ≤ 11) (t : Nat) (s : State) :
    s.takeArrival (11 + n) t = s.dieHome n t := by
  have hlow : 11 + n < bendInput := by
    unfold bendInput
    omega
  rw [State.takeArrival, lineSensorAt_dieInput hn]
  dsimp only
  rw [if_neg (by omega), if_neg (by omega), if_pos hlow, Nat.add_sub_cancel_left]

theorem dieHomeArrival_taken {n : Nat} (hn : n ≤ 11) {x : Input} {p : PendingChange} (hrun : s.resetAsserted = false)
    (hacc : accepting s (11 + n) x p) (hedge : x.raw = x.rising) :
    exec (.dieHomeArrival n) s = .next ((s.accepted (11 + n) x).dieHome n (stampOf x p)).finish := by
  show taken (fun s => if n ≤ 11 then s.arrival (11 + n) else s) s = _
  rw [taken_running _ _ hrun, if_pos hn, State.arrival_eq hacc hedge, State.takeArrival_dieInput hn]

theorem Punch.matches_iff (p : Punch) (n t : Nat) :
    p.matches n t = true ↔ p.state = .stroking ∧ p.die = some n ∧ ∃ t0, p.start = some t0 ∧ reached t t0 := by
  rw [Punch.matches, Bool.and_eq_true, Bool.and_eq_true, decide_eq_true_eq, decide_eq_true_eq, and_assoc]
  refine and_congr_right fun _ => and_congr_right fun _ => ?_
  cases p.start <;> simp [notBefore_iff]

theorem State.dieHome_stray {n t : Nat} (h : ¬ s.punch.matches n t = true) :
    s.dieHome n t = { s with punch := { s.punch with strays := saturate16 s.punch.strays } } := if_neg h

theorem Punch.releaseDie_eq {p : Punch} {n : Nat} (h : p.die = some n) :
    p.releaseDie = { p with dies := p.dies.set n false, die := none, start := none, deadline := none } := by
  rw [Punch.releaseDie, h]

theorem State.dieHome_completes {n t order : Nat} (h : s.punch.matches n t = true) (hdie : s.punch.die = some n)
    (hitem : s.punch.item = some order) :
    s.dieHome n t = State.punchContinues order { s with punch := { s.punch with
      dies := s.punch.dies.set n false, die := none, start := none, deadline := none } } := by
  have horder : s.punch.item.getD Config.count16 = order := by rw [hitem, Option.getD_some]
  rw [State.dieHome, if_pos h, horder, Punch.releaseDie_eq hdie]

/-- The next die ordered by a station whose stroke has just ended. -/
theorem Punch.orderDie_stroking {p : Punch} {dies : List Nat} (now timeout : Nat) (hstate : p.state = .stroking)
    (hdies : p.pattern = some dies) :
    p.orderDie now timeout =
      let die := dies.getD p.nextDie 0
      { p with
        die := some die, dies := p.dies.set die true, start := some now,
        deadline := some ((now + timeout) % 4294967296), nextDie := p.nextDie + 1 } := by
  cases p
  cases hstate
  cases hdies
  rfl

/-- After a stroke: done with the item, in a halt PAUSED, else the next die (R163). -/
theorem State.punchContinues_eq {dies : List Nat} (hstate : s.punch.state = .stroking)
    (hdies : s.punch.pattern = some dies) (order : Nat) :
    s.punchContinues order =
      if dies.length ≤ s.punch.nextDie ∨ ∃ it, s.item order = some it ∧ it.cause ≠ .none_ then s.punchFinishes order
      else if s.punch.halted = true then { s with punch := { s.punch with state := .paused } }
      else
        let die := dies.getD s.punch.nextDie 0
        { s with punch := { s.punch with
          die := some die, dies := s.punch.dies.set die true, start := some s.clock.time,
          deadline := some ((s.clock.time + s.link.timing.die) % 4294967296), nextDie := s.punch.nextDie + 1 } } := by
  have horder := Punch.orderDie_stroking s.clock.time s.link.timing.die hstate hdies
  rw [← if_congr (or_congr_right State.itemRetired_iff) rfl rfl, ite_or, State.punchContinues, hdies]
  exact if_congr Iff.rfl rfl (if_congr Iff.rfl rfl (if_congr Iff.rfl rfl
    (congrArg (fun p => { s with punch := p }) horder)))

/-- Settles O52: the notice by the item that gives it, the arrival by whether it matches the die in stroke
(`Punch.matches_iff`). -/
theorem punchWork : Obligations.PunchWork := by
  intro s hrun now finished idle inside
  refine ⟨taken_running _ _ hrun, fun hwait => ?waits,
    fun it stamp hline hpunch hinside hit hloc hwork htime => ?takes, fun n x p hn hacc hedge => ?arrival⟩
  case waits =>
    exact State.punchEntry_waits (hwait.imp_right (Or.imp_right (Line.noticed_eq_none (st := .punch))))
  case takes =>
    have hentry : s.punchEntry = s.punchTakes it :=
      State.punchEntry_takes hline hpunch (Line.noticed_eq_some (st := .punch) hinside hloc hwork htime)
    refine ⟨fun hcause => ?_, fun hcause hpress => ?_, fun e die dies hcause hpress he hdies => ?_⟩
    · rw [hentry, State.punchTakes_retired hit hcause]
      rfl
    · rw [hentry, State.punchTakes_redirected hit hcause hpress]
      rfl
    · rw [hentry, State.punchTakes_orders hit hcause hpress he hdies]
      rfl
  case arrival =>
    intro t
    have hexec : ∀ u, t.dieHome n (stampOf x p) = u → exec (.dieHomeArrival n) s = .next u.finish := fun u hu => by
      rw [← hu]
      exact dieHomeArrival_taken hn hrun hacc hedge
    refine ⟨fun hstray => hexec _ (State.dieHome_stray (mt (Punch.matches_iff _ n _).mp hstray)),
      fun t0 order dies hstate hdie hstart hreached hitem hdies => hexec _ ?_⟩
    have hmatch : t.punch.matches n (stampOf x p) = true :=
      (Punch.matches_iff _ n _).mpr ⟨hstate, hdie, t0, hstart, hreached⟩
    rw [State.dieHome_completes hmatch hdie hitem]
    exact State.punchContinues_eq (by exact hstate) (by exact hdies) order

/-! ### The Bend Controller takes a notice (R167) -/

theorem State.bendEntry_waits (h : s.line.state ≠ .running ∨ s.bend.state ≠ .idle ∨ s.line.noticed .bend = none) :
    s.bendEntry = s := by
  unfold State.bendEntry
  split
  · rename_i hready
    rcases h with hline | hbend | hnone
    · exact absurd hready.1 hline
    · exact absurd hready.2 hbend
    · rw [hnone]
  · rfl

theorem State.bendEntry_takes (hline : s.line.state = .running) (hbend : s.bend.state = .idle)
    (hit : s.line.noticed .bend = some it) : s.bendEntry = s.bendTakes it := by
  rw [State.bendEntry, if_pos ⟨hline, hbend⟩, hit]

/-- The profile decides the first bend of a current item, or that there is none. -/
theorem State.bendTakes_eq {e : Press} (hcause : it.cause = .none_) (he : s.press it.press = some e) {f : Profile}
    (hf : s.bend.profiles.getD e.profile none = some f) :
    s.bendTakes it =
      let heard := s.noticeTaken it.order
      let copied : State := { heard with bend := { s.bend with item := some it.order, profile := some f } }
      if f.lead = true then copied.orderBend .lead
      else if f.tail = true then copied.orderBend .tail
      else heard.finishWork it.order := by
  have hprofile : (((s.noticeTaken it.order).press it.press).bind fun p =>
      (s.noticeTaken it.order).bend.profiles.getD p.profile none).getD ⟨false, false⟩ = f := by
    show ((s.press it.press).bind fun p => s.bend.profiles.getD p.profile none).getD ⟨false, false⟩ = f
    rw [he, Option.bind_some, hf, Option.getD_some]
  unfold State.bendTakes
  dsimp only
  rw [hprofile, if_neg (not_not.mpr hcause)]
  obtain ⟨lead, tail⟩ := f
  cases lead
  · cases tail <;> rfl
  · rfl

/-! ### A bend is done (R168) -/

theorem bendDoneArrival_taken {x : Input} {p : PendingChange} (hrun : s.resetAsserted = false)
    (hacc : accepting s 23 x p) (hedge : x.raw = x.rising) :
    exec .bendDoneArrival s = .next ((s.accepted 23 x).bendDone (stampOf x p)).finish := by
  show taken (State.arrival 23) s = _
  rw [taken_running _ _ hrun, State.arrival_eq hacc hedge]
  rfl

theorem Bend.matches_iff (b : Bend) (t : Nat) :
    b.matches t = true ↔ b.state = .bending ∧ ∃ t0, b.start = some t0 ∧ reached t t0 := by
  rw [Bend.matches, Bool.and_eq_true, decide_eq_true_eq]
  refine and_congr_right fun _ => ?_
  cases b.start <;> simp [notBefore_iff]

theorem State.bendDone_stray {t : Nat} (h : s.bend.matches t = true → s.bend.bend = none) :
    s.bendDone t = { s with bend := { s.bend with strays := saturate16 s.bend.strays } } := by
  unfold State.bendDone
  split
  · rename_i hmatch hbend
    exact absurd ((h hmatch).symm.trans hbend) nofun
  · rfl

theorem Bend.release_eq {b : Bend} {k : BendKind} (h : b.bend = some k) :
    b.release = { b with
      outLead := if k = .lead then false else b.outLead, outTail := if k = .tail then false else b.outTail,
      bend := none, start := none, deadline := none } := by
  rw [Bend.release, h]
  cases k <;> rfl

theorem State.bendDone_completes {t order : Nat} {k : BendKind} (h : s.bend.matches t = true)
    (hbend : s.bend.bend = some k) (hitem : s.bend.item = some order) :
    s.bendDone t = State.bendContinues order k { s with bend := { s.bend with
      outLead := if k = .lead then false else s.bend.outLead, outTail := if k = .tail then false else s.bend.outTail,
      bend := none, start := none, deadline := none } } := by
  have horder : s.bend.item.getD Config.count16 = order := by rw [hitem, Option.getD_some]
  rw [State.bendDone, h, hbend]
  dsimp only
  rw [horder, Bend.release_eq hbend]

/-- The tail bend ordered by a station whose lead bend has just ended. -/
theorem Bend.order_tail_bending {b : Bend} (now timeout : Nat) (hstate : b.state = .bending) :
    b.order .tail now timeout =
      { b with
        bend := some .tail, outTail := true, start := some now, deadline := some ((now + timeout) % 4294967296) } := by
  cases b
  cases hstate
  rfl

/-- After a bend: the tail of a current item, in a halt PAUSED, else done with the item (R168). -/
theorem State.bendContinues_eq {f : Profile} (hstate : s.bend.state = .bending) (hf : s.bend.profile = some f)
    (order : Nat) (k : BendKind) :
    s.bendContinues order k =
      if k = .lead ∧ f.tail = true ∧ ¬ (∃ it, s.item order = some it ∧ it.cause ≠ .none_) then
        if s.bend.halted = true then { s with bend := { s.bend with state := .paused } }
        else { s with bend := { s.bend with
          bend := some .tail, outTail := true, start := some s.clock.time,
          deadline := some ((s.clock.time + s.link.timing.bend) % 4294967296) } }
      else s.bendFinishes order := by
  have hcurrent : (!s.itemRetired order) = true ↔ ¬ ∃ it, s.item order = some it ∧ it.cause ≠ .none_ := by
    rw [Bool.not_eq_true', ← Bool.not_eq_true, State.itemRetired_iff]
  have horder := Bend.order_tail_bending s.clock.time s.link.timing.bend hstate
  rw [State.bendContinues, hf]
  exact if_congr (and_congr_right fun _ => and_congr_right fun _ => hcurrent)
    (if_congr Iff.rfl rfl (congrArg (fun b => { s with bend := b }) horder)) rfl

/-- Settles O53: the notice by the item that gives it and its profile (`State.bendTakes_eq`), the arrival by whether it
matches the bend in stroke (`Bend.matches_iff`). -/
theorem bendWork : Obligations.BendWork := by
  intro s hrun now finished deadline inside
  refine ⟨taken_running _ _ hrun, fun hwait => ?waits,
    fun it stamp hline hbend hinside hloc hwork htime => ?takes, fun x p hacc hedge => ?arrival⟩
  case waits =>
    exact State.bendEntry_waits (hwait.imp_right (Or.imp_right (Line.noticed_eq_none (st := .bend))))
  case takes =>
    have hentry : s.bendEntry = s.bendTakes it :=
      State.bendEntry_takes hline hbend (Line.noticed_eq_some (st := .bend) hinside hloc hwork htime)
    refine ⟨fun hcause => ?_, fun e f hcause he hf => ?_⟩
    · rw [hentry]
      exact if_pos hcause
    · rw [hentry, State.bendTakes_eq hcause he hf]
      rfl
  case arrival =>
    intro t
    have hexec : ∀ u, t.bendDone (stampOf x p) = u → exec .bendDoneArrival s = .next u.finish := fun u hu => by
      rw [← hu]
      exact bendDoneArrival_taken hrun hacc hedge
    refine ⟨fun hstray => hexec _ (State.bendDone_stray fun hmatch => ?_),
      fun t0 k order f hstate hbend hstart hreached hitem hf => hexec _ ?_⟩
    · obtain ⟨hstate, hstart⟩ := (Bend.matches_iff _ _).mp hmatch
      by_contra hbend
      exact hstray ⟨hstate, hbend, hstart⟩
    · have hmatch : t.bend.matches (stampOf x p) = true := (Bend.matches_iff _ _).mpr ⟨hstate, t0, hstart, hreached⟩
      rw [State.bendDone_completes hmatch hbend hitem]
      exact State.bendContinues_eq (by exact hstate) (by exact hf) order k

end Sys2Proof.Machine
end


-- ==== Sys2Proof/Proofs/Carts.lean ====
section
/-! PROOF. The slots of a layout, and the arrivals and departures at the carts and the exits (chapter 9). -/

namespace Sys2Proof.Machine

/-! ### Slots (R174) -/

/-- A plate within the layout has its slot below the slot count (R173, R174). -/
theorem slot_lt_slots {unit face across units acrosses : Nat} (hunit : unit < units) (hface : face ≤ 1)
    (hacross : across < acrosses) : (unit * 2 + face) * acrosses + across < units * 2 * acrosses :=
  calc (unit * 2 + face) * acrosses + across
      < (unit * 2 + face + 1) * acrosses := by rw [Nat.succ_mul]; omega
    _ ≤ units * 2 * acrosses := Nat.mul_le_mul_right _ (by omega)

/-- The slot is a row number and a place in that row: the row is the quotient and the place the remainder. -/
theorem slot_injective {unit face across unit' face' across' acrosses : Nat} (hface : face ≤ 1) (hface' : face' ≤ 1)
    (hacross : across < acrosses) (hacross' : across' < acrosses)
    (h : (unit * 2 + face) * acrosses + across = (unit' * 2 + face') * acrosses + across') :
    unit = unit' ∧ face = face' ∧ across = across' := by
  have hdivMod : ∀ row place, place < acrosses →
      (row * acrosses + place) / acrosses = row ∧ (row * acrosses + place) % acrosses = place :=
    fun _ _ hplace => (Nat.div_mod_unique (Nat.zero_lt_of_lt hplace)).mpr ⟨by ring, hplace⟩
  obtain ⟨hrow, hplace⟩ := hdivMod (unit * 2 + face) across hacross
  obtain ⟨hrow', hplace'⟩ := hdivMod (unit' * 2 + face') across' hacross'
  rw [h] at hrow hplace
  omega

theorem Layout.slotOf_eq_some_iff {l : Layout} {p : PlateId} {n : Nat} :
    l.slotOf p = some n ↔
      (p.unit < l.units ∧ p.across < l.acrosses) ∧ (p.unit * 2 + p.face) * l.acrosses + p.across = n := by
  rw [Layout.slotOf, Option.ite_none_right_eq_some, Option.some_inj]

theorem Layout.slotOf_eq_none_iff {l : Layout} {p : PlateId} :
    l.slotOf p = none ↔ ¬ (p.unit < l.units ∧ p.across < l.acrosses) := by
  rw [Layout.slotOf]
  simp

theorem Layout.slotOf_lt_slots {l : Layout} {p : PlateId} {n : Nat} (hface : p.face ≤ 1) (h : l.slotOf p = some n) :
    n < l.slots := by
  obtain ⟨⟨hunit, hacross⟩, rfl⟩ := Layout.slotOf_eq_some_iff.mp h
  exact slot_lt_slots hunit hface hacross

theorem Layout.slotOf_injective {l : Layout} {p q : PlateId} {n : Nat} (hp : p.face ≤ 1) (hq : q.face ≤ 1)
    (hpn : l.slotOf p = some n) (hqn : l.slotOf q = some n) :
    p.unit = q.unit ∧ p.face = q.face ∧ p.across = q.across := by
  obtain ⟨⟨-, hpa⟩, hpslot⟩ := Layout.slotOf_eq_some_iff.mp hpn
  obtain ⟨⟨-, hqa⟩, hqslot⟩ := Layout.slotOf_eq_some_iff.mp hqn
  exact slot_injective hp hq hpa hqa (hpslot.trans hqslot.symm)

/-- The last across of face 1 of the last unit has the last slot. -/
theorem Layout.slotOf_last {units acrosses : Nat} (hunits : 1 ≤ units) (hacrosses : 1 ≤ acrosses) (line : Nat) :
    Layout.slotOf ⟨units, acrosses⟩ ⟨line, units - 1, 1, acrosses - 1⟩ = some (units * 2 * acrosses - 1) := by
  refine Layout.slotOf_eq_some_iff.mpr ⟨⟨by dsimp only; omega, by dsimp only; omega⟩, ?_⟩
  have hrow : (units - 1) * 2 + 1 = units * 2 - 1 := by omega
  have hrows : acrosses ≤ units * 2 * acrosses := Nat.le_mul_of_pos_left _ (by omega)
  dsimp only
  rw [hrow, Nat.sub_one_mul]
  omega

/-! ### Arrivals (R99, R175, R176) -/

theorem lineSensorAt_cartInput {n : Nat} (hn : n ≤ 5) : lineSensorAt (24 + n) = none := by
  interval_cases n <;> rfl

/-- The arrival at a cart's input attaches the cart. -/
theorem State.takeArrival_cartInput {n : Nat} (hn : n ≤ 5) (t : Nat) (s : State) :
    s.takeArrival (24 + n) t = s.attachCart n := by
  have hcart : isCartInput (24 + n) = true := (isCartInput_iff _).mpr (by omega)
  have hbend : bendInput = 23 := rfl
  rw [State.takeArrival, lineSensorAt_cartInput hn]
  dsimp only
  rw [if_neg (by omega), if_neg (by omega), if_neg (by omega), if_neg (by omega), if_pos hcart,
    Nat.add_sub_cancel_left]

theorem State.takeArrival_emptiedInput (e : ExitName) (t : Nat) (s : State) :
    s.takeArrival (emptiedInput e) t = { s with sorter := s.sorter.emptied e } := by
  cases e <;> rfl

theorem cartAttach_taken {n : Nat} (hn : n ≤ 5) {x : Input} {p : PendingChange} {s : State}
    (hrun : s.resetAsserted = false) (hacc : accepting s (24 + n) x p) (hedge : x.raw = x.rising) :
    exec (.cartAttach n) s = .next ((s.accepted (24 + n) x).attachCart n).finish := by
  show taken (fun s => if n ≤ 5 then s.arrival (24 + n) else s) s = _
  rw [taken_running _ _ hrun, if_pos hn, State.arrival_eq hacc hedge, State.takeArrival_cartInput hn]

theorem cartDetach_taken {n : Nat} (hn : n ≤ 5) {x : Input} {p : PendingChange} {s : State}
    (hrun : s.resetAsserted = false) (hacc : accepting s (24 + n) x p) (hedge : x.raw ≠ x.rising) :
    exec (.cartDetach n) s = .next ((s.accepted (24 + n) x).detachCart n).finish := by
  have hcart : isCartInput (24 + n) = true := (isCartInput_iff _).mpr (by omega)
  show taken (fun s => if n ≤ 5 then s.departure (24 + n) else s) s = _
  rw [taken_running _ _ hrun, if_pos hn, State.departure_eq hacc hedge, if_pos hcart, Nat.add_sub_cancel_left]

theorem exitEmptied_taken {e : ExitName} {x : Input} {p : PendingChange} {s : State}
    (hrun : s.resetAsserted = false) (hacc : accepting s (emptiedInput e) x p) (hedge : x.raw = x.rising) :
    exec (.exitEmptied e) s =
      .next (State.finish { s.accepted (emptiedInput e) x with sorter := s.sorter.emptied e }) := by
  show taken (State.arrival (emptiedInput e)) s = _
  rw [taken_running _ _ hrun, State.arrival_eq hacc hedge, State.takeArrival_emptiedInput]
  rfl

/-- Settles O56: the arrival at a cart's input attaches it, the departure detaches it, whatever it was before. -/
theorem cartsAttachAndDetach : Obligations.CartsAttachAndDetach := fun _ _ _ _ hn hrun hacc =>
  ⟨cartAttach_taken hn hrun hacc, cartDetach_taken hn hrun hacc⟩

end Sys2Proof.Machine
end


-- ==== Sys2Proof/Proofs/SortDecision.lean ====
section
/-! PROOF. The destination decision: the tests in their order, the deposit ordered or the station blocked, and the entry
notice that calls for it (chapter 9). -/

namespace Sys2Proof.Machine

/-! ### The cart and the slot (R177) -/

section
variable {r : Sorter} {it : Item} {n : Nat}

theorem Sorter.choose_absent (h : (r.cart it.press).present = false) : r.choose it = (.remake, some .cartAbsent) := by
  rw [Sorter.choose, h]
  rfl

theorem Sorter.choose_noSlot (hpresent : (r.cart it.press).present = true)
    (h : ((r.cart it.press).layout.bind fun l => l.slotOf it.plate) = none) :
    r.choose it = (.remake, some .noSlot) := by
  rw [Sorter.choose, hpresent, h]
  rfl

theorem Sorter.choose_slot (hpresent : (r.cart it.press).present = true)
    (h : ((r.cart it.press).layout.bind fun l => l.slotOf it.plate) = some n) :
    r.choose it =
      if n ∈ (r.cart it.press).occupancy then (.remake, some .slotOccupied) else (.cart it.press n, none) := by
  rw [Sorter.choose, hpresent, h]
  rfl

end

/-! ### The deposit ordered, or the station blocked (R179, R180) -/

/-- The fields that a decision fixes in the station record (R178). -/
def Sorter.decided (r : Sorter) (order : Nat) (d : Destination) (divert : Option Divert) (redirected : Bool) : Sorter :=
  { r with
    item := some order, destination := some d, divert := divert, redirected := redirected,
    retiredHere := r.retiredHere || redirected }

section
variable {s : State} (order : Nat) (d : Destination) (divert : Option Divert) (redirected : Bool)

theorem State.fixDestination_eq :
    s.fixDestination order d divert redirected =
      if (d.exit.map s.sorter.full).getD false = true then
        { s with sorter := { s.sorter.decided order d divert redirected with state := .blocked } }
      else State.orderDeposit order d { s with sorter := s.sorter.decided order d divert redirected } := rfl

/-- A deposit ordered at the time `now`, with the entry `e` of the Line Window Table for DEPOSIT windows (R135, R179). -/
theorem State.orderDeposit_eq {r : Sorter} {now : Nat} {e : WindowEntry} (hnow : s.clock.time = now)
    (he : s.line.table.kinds.getD 7 ⟨0, 0⟩ = e) :
    State.orderDeposit order d { s with sorter := r } = { s with
      sorter := { r with state := .depositing, exitCode := d.code },
      line := { s.line with items := s.line.items.map fun j => if j.order = order then
        { j with window := some ⟨.deposit, .sd, now, e.min, e.max, false, some ((now + e.max) % 4294967296), none⟩ }
        else j } } := by
  subst hnow he
  rfl

theorem State.fixDestination_decided :
    (s.fixDestination order d divert redirected).sorter.destination = some d ∧
      (s.fixDestination order d divert redirected).sorter.divert = divert := by
  rw [State.fixDestination_eq]
  split <;> exact ⟨rfl, rfl⟩

end

theorem Sorter.full_reject_iff (r : Sorter) : r.full .reject = true ↔ r.rejects = 40 := decide_eq_true_iff

theorem Sorter.full_remake_iff (r : Sorter) : r.full .remake = true ↔ r.remakes = 12 := decide_eq_true_iff

/-! ### The decision (R177, R178) -/

section
variable {s : State} {it : Item}

theorem State.decideFor_retired (hcause : it.cause ≠ .none_) :
    s.decideFor it = s.fixDestination it.order .reject none false := if_pos hcause

theorem State.decideFor_redirected {j : Item} (hit : s.item it.order = some j) (hplate : j.plate = it.plate)
    (hsame : j.cause = it.cause) (hcause : it.cause = .none_) (hpress : s.assigned it.plate.line ≠ some it.press) :
    s.decideFor it =
      ((s.retireItem it.order .redirected).needCheck it.plate none).fixDestination it.order .reject none true := by
  rw [State.decideFor, if_neg (not_not.mpr hcause), if_pos hpress, State.retireForReplacement_eq hit,
    if_pos (hsame.trans hcause), hplate]

theorem State.decideFor_current (hcause : it.cause = .none_) (hpress : s.assigned it.plate.line = some it.press) :
    s.decideFor it = s.fixDestination it.order (s.sorter.choose it).1 (s.sorter.choose it).2 false := by
  rw [State.decideFor, if_neg (not_not.mpr hcause), if_neg (not_not.mpr hpress)]

end

/-- Settles O55: the slot by its row and its place in the row, the destination by `Sorter.choose_noSlot`. -/
theorem slotOfPlate : Obligations.SlotOfPlate := by
  intro u a hu hu' ha ha' l
  refine ⟨fun _ => rfl, fun p n hface hn => ?bound, Layout.slotOf_last hu ha,
    fun p q n => Layout.slotOf_injective, fun line unit across hunit hacross => ⟨?face0, ?face1⟩,
    ?noSlot⟩
  case bound =>
    have hlt : n < u * 2 * a := Layout.slotOf_lt_slots hface hn
    exact ⟨hlt, Nat.le_of_lt_succ (hlt.trans_le (slots_le_maxSlots hu' ha'))⟩
  case face0 =>
    exact Layout.slotOf_eq_some_iff.mpr ⟨⟨hunit, hacross⟩, by dsimp only; ring⟩
  case face1 =>
    exact Layout.slotOf_eq_some_iff.mpr ⟨⟨hunit, hacross⟩, by dsimp only; ring⟩
  case noSlot =>
    intro it s cart hcause hpress hpresent hslot
    have hnone : (cart.layout.bind fun g => g.slotOf it.plate) = none := by
      rcases hslot with hlayout | ⟨hlayout, hout⟩
      · rw [hlayout, Option.bind_none]
      · rw [hlayout, Option.bind_some, hout]
    rw [State.decideFor_current hcause hpress, Sorter.choose_noSlot hpresent hnone]
    exact State.fixDestination_decided ..

/-! ### The halt of a blocked station, and the notice (R177, R180) -/

section
variable {s : State} {it : Item}

theorem State.haltBlocked_unblocked (h : s.sorter.state ≠ .blocked) : s.haltBlocked = s := if_neg h

theorem State.haltBlocked_blocked {d : Destination} (h : s.sorter.state = .blocked)
    (hd : s.sorter.destination = some d) :
    s.haltBlocked = s.haltLine .exitFull s.sorter.item none d.exit := by
  rw [State.haltBlocked, if_pos h, hd, Option.bind_some]

theorem State.sortTakes_waits (h : s.line.state ≠ .running ∨ s.sorter.state ≠ .idle ∨ s.line.noticed .sort = none) :
    s.sortTakes = s := by
  unfold State.sortTakes
  split
  · rename_i hready
    rcases h with hline | hsort | hnone
    · exact absurd hready.1 hline
    · exact absurd hready.2 hsort
    · rw [hnone]
  · rfl

/-- A station that waits has not blocked the line. -/
theorem State.sortEntry_waits (h : s.line.state ≠ .running ∨ s.sorter.state ≠ .idle ∨ s.line.noticed .sort = none) :
    s.sortEntry = s := by
  rw [State.sortEntry, State.sortTakes_waits h]
  split
  · rename_i hready
    exact State.haltBlocked_unblocked (hready.2 ▸ nofun)
  · rfl

theorem State.sortTakes_takes (hline : s.line.state = .running) (hsort : s.sorter.state = .idle)
    (hit : s.line.noticed .sort = some it) : s.sortTakes = (s.noticeTaken it.order).decideFor it := by
  rw [State.sortTakes, if_pos ⟨hline, hsort⟩, hit]

theorem State.sortEntry_takes (hline : s.line.state = .running) (hsort : s.sorter.state = .idle) :
    s.sortEntry = s.sortTakes.haltBlocked := if_pos ⟨hline, hsort⟩

end

/-- Settles O57: the decision test by test, the notice by the item that gives it, the emptied exit by its input. -/
theorem sortDecision : Obligations.SortDecision := by
  refine ⟨fun it j s hit hplate hsame => ?decision, fun s => ?notice, fun e x p s hrun hacc hedge => ?emptied⟩
  case decision =>
    intro now e r fixed cart
    have hfixed : ∀ d divert redirected (u : State), u.clock = s.clock → u.line.table = s.line.table →
        u.sorter = s.sorter → u.fixDestination it.order d divert redirected = fixed d divert redirected u := by
      intro d divert redirected u hclock htable hsorter
      have hnow : u.clock.time = now := by rw [hclock]
      have hentry : u.line.table.kinds.getD 7 ⟨0, 0⟩ = e := by rw [htable]
      rw [State.fixDestination_eq, State.orderDeposit_eq _ _ hnow hentry, hsorter]
      cases d with
      | cart n slot => rfl
      | reject => exact if_congr r.full_reject_iff rfl rfl
      | remake => exact if_congr r.full_remake_iff rfl rfl
    rcases ne_or_eq it.cause .none_ with hcause | hcause
    · rw [State.decideFor_retired hcause, if_pos hcause]
      exact hfixed _ _ _ s rfl rfl rfl
    rw [if_neg (not_not.mpr hcause)]
    rcases ne_or_eq (s.sched.assignment.getD it.plate.line none) (some it.press) with hpress | hpress
    · rw [State.decideFor_redirected hit hplate hsame hcause hpress, if_pos hpress]
      exact hfixed _ _ _ _ (by simp) (by simp) (by simp)
    rw [if_neg (not_not.mpr hpress)]
    have hchosen : ∀ d divert, r.choose it = (d, divert) → s.decideFor it = fixed d divert false s :=
      fun d divert hchoose => by
        rw [State.decideFor_current hcause hpress, hchoose]
        exact hfixed d divert false s rfl rfl rfl
    cases hpresent : cart.present with
    | false => exact hchosen _ _ (Sorter.choose_absent hpresent)
    | true =>
      rw [if_neg nofun]
      cases hlayout : cart.layout with
      | none => exact hchosen _ _ (Sorter.choose_noSlot hpresent (congrArg (Option.bind · _) hlayout))
      | some g =>
        have hbind : (cart.layout.bind fun l => l.slotOf it.plate) = g.slotOf it.plate := by
          rw [hlayout, Option.bind_some]
        dsimp only
        by_cases hin : it.plate.unit < g.units ∧ it.plate.across < g.acrosses
        · have hslot := hbind.trans (Layout.slotOf_eq_some_iff.mpr ⟨hin, rfl⟩)
          have hchoose := Sorter.choose_slot hpresent hslot
          rw [if_neg (not_not.mpr hin)]
          split
          · exact hchosen _ _ (hchoose.trans (if_pos ‹_›))
          · exact hchosen _ _ (hchoose.trans (if_neg ‹_›))
        · rw [if_pos hin]
          exact hchosen _ _ (Sorter.choose_noSlot hpresent (hbind.trans (Layout.slotOf_eq_none_iff.mpr hin)))
  case notice =>
    intro inside
    refine ⟨State.haltBlocked_unblocked, fun d hblocked hd => ?_, fun hwait => ?_,
      fun it stamp hline hsort hinside hloc hwork htime => ⟨?_, fun hrun => ?_⟩⟩
    · rw [State.haltBlocked_blocked hblocked hd]
      cases d <;> rfl
    · have hnone := hwait.imp_right (Or.imp_right (Line.noticed_eq_none (st := .sort)))
      refine ⟨State.sortTakes_waits hnone, fun hrun => ?_⟩
      exact (taken_running State.sortEntry s hrun).trans (by rw [State.sortEntry_waits hnone])
    · exact State.sortTakes_takes hline hsort (Line.noticed_eq_some (st := .sort) hinside hloc hwork htime)
    · exact (taken_running State.sortEntry s hrun).trans (by rw [State.sortEntry_takes hline hsort])
  case emptied =>
    cases e <;> exact exitEmptied_taken hrun hacc hedge

end Sys2Proof.Machine
end


-- ==== Sys2Proof/Proofs/RequestPayloads.lean ====
section
/-! PROOF. The payloads of Table 10.7 read back: every field of a request is found where it was written (chapter 10). -/

namespace Sys2Proof.Machine

/-! ### Fields behind other bytes -/

section
variable {before rest : List Byte} {off : Nat}

@[simp] theorem field_skip (w : Nat) (h : before.length ≤ off) :
    field (before ++ rest) off w = field rest (off - before.length) w := by
  rw [field, field, List.drop_append, List.drop_eq_nil_of_le h, List.nil_append]

theorem field_skip_add (k w : Nat) (h : before.length ≤ off) :
    field (before ++ rest) (off + k) w = field rest (off - before.length + k) w := by
  rw [field_skip w (Nat.le_add_right_of_le h), Nat.sub_add_comm h]

@[simp] theorem keyField_skip (h : before.length ≤ off) :
    keyField (before ++ rest) off = keyField rest (off - before.length) := by
  simp only [keyField, field_skip _ h, field_skip_add _ _ h]

@[simp] theorem plateField_skip (h : before.length ≤ off) :
    plateField (before ++ rest) off = plateField rest (off - before.length) := by
  simp only [plateField, field_skip _ h, field_skip_add _ _ h]

@[simp] theorem signedField_skip (h : before.length ≤ off) :
    signedField (before ++ rest) off = signedField rest (off - before.length) := by
  simp only [signedField, field_skip _ h]

@[simp] theorem posField_skip (h : before.length ≤ off) :
    posField (before ++ rest) off = posField rest (off - before.length) := by
  simp only [posField, keyField_skip h, field_skip_add _ _ h]

@[simp] theorem settingsField_skip (h : before.length ≤ off) :
    settingsField (before ++ rest) off = settingsField rest (off - before.length) := by
  simp only [settingsField, field_skip _ h, field_skip_add _ _ h]

end

/-! ### Lengths (Table 10.5) -/

@[simp] theorem length_keyBytes (k : PageKey) : (keyBytes k).length = 5 := by simp [keyBytes, length_be]

@[simp] theorem length_plateBytes (p : PlateId) : (plateBytes p).length = 4 := by simp [plateBytes, length_be]

@[simp] theorem length_fanBytes (f : Int) : (fanBytes f).length = 2 := length_be 2 _

@[simp] theorem length_posArgsBytes (q : PosArgs) : (posArgsBytes q).length = 10 := by
  simp [posArgsBytes, length_be]

@[simp] theorem length_settingArgsBytes (a : SettingArgs) : (settingArgsBytes a).length = 13 := by
  simp [settingArgsBytes, length_be]

theorem length_flatMap_posArgsBytes (ps : List PosArgs) : (ps.flatMap posArgsBytes).length = 10 * ps.length := by
  induction ps with
  | nil => rfl
  | cons q ps ih =>
    rw [List.flatMap_cons, List.length_append, ih, length_posArgsBytes, List.length_cons]
    omega

theorem length_flatMap_byte (ds : List Nat) : (ds.flatMap (be 1)).length = ds.length := by
  induction ds with
  | nil => rfl
  | cons d ds ih => rw [List.flatMap_cons, List.length_append, ih, length_be, List.length_cons, Nat.add_comm]

/-! ### Fields at the front -/

section
variable {n : Nat} (rest : List Byte)

@[simp] theorem field_byte (h : isByte n = true) : field (be 1 n ++ rest) 0 1 = n :=
  field_be [] rest rfl (of_decide_eq_true h)

@[simp] theorem field_word (h : isWord n = true) : field (be 2 n ++ rest) 0 2 = n :=
  field_be [] rest rfl (of_decide_eq_true h)

@[simp] theorem field_long (h : isLong n = true) : field (be 4 n ++ rest) 0 4 = n :=
  field_be [] rest rfl (of_decide_eq_true h)

@[simp] theorem keyField_keyBytes {k : PageKey} (h : k.bytesOk = true) : keyField (keyBytes k ++ rest) 0 = k := by
  simp only [PageKey.bytesOk, Bool.and_eq_true, and_assoc] at h
  obtain ⟨hedition, hzone, hsect, hpage, hsep⟩ := h
  simp [keyField, keyBytes, length_be, hedition, hzone, hsect, hpage, hsep]

@[simp] theorem plateField_plateBytes {p : PlateId} (h : p.bytesOk = true) : plateField (plateBytes p ++ rest) 0 = p := by
  simp only [PlateId.bytesOk, Bool.and_eq_true, and_assoc] at h
  obtain ⟨hline, hunit, hface, hacross⟩ := h
  simp [plateField, plateBytes, length_be, hline, hunit, hface, hacross]

@[simp] theorem posField_posArgsBytes {q : PosArgs} (h : q.bytesOk = true) : posField (posArgsBytes q ++ rest) 0 = q := by
  simp only [PosArgs.bytesOk, Bool.and_eq_true, and_assoc] at h
  obtain ⟨hkey, hrotation, hx0, hy0⟩ := h
  simp [posField, posArgsBytes, length_be, hkey, hrotation, hx0, hy0]

@[simp] theorem settingsField_settingArgsBytes {a : SettingArgs} (h : a.bytesOk = true) :
    settingsField (settingArgsBytes a ++ rest) 0 = a := by
  simp only [SettingArgs.bytesOk, Bool.and_eq_true, and_assoc] at h
  obtain ⟨hd, hpRev, hc, hmult, htol, hg, hskip⟩ := h
  simp [settingsField, settingArgsBytes, length_be, hd, hpRev, hc, hmult, htol, hg, hskip]

/-- Two's complement read back. -/
@[simp] theorem signedField_fanBytes {f : Int} (h : isFan f = true) : signedField (fanBytes f ++ rest) 0 = f := by
  obtain ⟨hlow, hhigh⟩ := of_decide_eq_true h
  have hword : isWord (f % 65536).toNat = true := decide_eq_true (by omega)
  rw [signedField, fanBytes, field_word rest hword]
  split <;> omega

end

/-! ### Lists of fields -/

theorem posFields_flatMap (ps : List PosArgs) (rest : List Byte) (h : ∀ q ∈ ps, q.bytesOk = true) :
    (List.range ps.length).map (fun p => posField (ps.flatMap posArgsBytes ++ rest) (10 * p)) = ps := by
  induction ps with
  | nil => rfl
  | cons q ps ih =>
    obtain ⟨hq, hps⟩ := List.forall_mem_cons.mp h
    have hnext : ∀ p, posField (posArgsBytes q ++ (ps.flatMap posArgsBytes ++ rest)) (10 * (p + 1)) =
        posField (ps.flatMap posArgsBytes ++ rest) (10 * p) := fun p =>
      posField_skip (by rw [length_posArgsBytes]; omega)
    rw [List.length_cons, List.range_succ_eq_map, List.flatMap_cons, List.append_assoc, List.map_cons, List.map_map,
      Nat.mul_zero, posField_posArgsBytes _ hq]
    simp only [Function.comp_def, Nat.succ_eq_add_one, hnext, ih hps]

theorem toNat_flatMap_byte {ds : List Nat} (h : ∀ d ∈ ds, isByte d = true) :
    (ds.flatMap (be 1)).map BitVec.toNat = ds := by
  induction ds with
  | nil => rfl
  | cons d ds ih =>
    obtain ⟨hd, hds⟩ := List.forall_mem_cons.mp h
    have hbyte : (be 1 d).map BitVec.toNat = [d] := by
      simp [be, Nat.mod_eq_of_lt (of_decide_eq_true hd : d < 256)]
    rw [List.flatMap_cons, List.map_append, hbyte, ih hds, List.singleton_append]

/-! ### Requests (Table 10.7) -/

/-- A request is read back from its payload: no field is dropped or altered. The rules for fields speak of a field with
bytes behind it, so the payload is read with an empty rest. -/
theorem requestOf_payloadOf {r : Request} (h : r.wf = true) : requestOf (kindOf r) (payloadOf r) = r := by
  rw [← List.append_nil (payloadOf r)]
  cases r with
  | mapLoad p z c a ps =>
    simp only [Request.wf, Bool.and_eq_true, List.all_eq_true, and_assoc] at h
    obtain ⟨hp, hz, hc, ha, hlen, hps⟩ := h
    have hposition : ∀ n, posField (payloadOf (.mapLoad p z c a ps) ++ []) (8 + 10 * n) =
        posField (ps.flatMap posArgsBytes ++ []) (10 * n) := fun n => by
      have hheader : (plateBytes p ++ be 1 z ++ be 1 c ++ be 1 a ++ be 1 ps.length).length = 8 := by simp [length_be]
      rw [payloadOf, List.append_assoc, posField_skip (hheader ▸ Nat.le_add_right _ _), hheader, Nat.add_sub_cancel_left]
    simp only [kindOf, requestOf, hposition]
    simpa [-List.append_nil, payloadOf, length_be, hp, hz, hc, ha, hlen] using posFields_flatMap ps [] hps
  | pressSet p a b fs =>
    simp only [Request.wf, Bool.and_eq_true, List.all_eq_true, and_assoc, decide_eq_true_eq] at h
    obtain ⟨hp, ha, hb, hfour, hfs⟩ := h
    obtain ⟨f₀, f₁, f₂, f₃, rfl⟩ := List.length_eq_four.mp hfour
    simp only [List.forall_mem_cons] at hfs
    simp [-List.append_nil, kindOf, payloadOf, requestOf, length_be, hp, ha, hb, hfs]
  | patternLoad p ds =>
    simp only [Request.wf, Bool.and_eq_true, List.all_eq_true, and_assoc] at h
    obtain ⟨hp, hlen, hds⟩ := h
    have hdies : (be 1 p ++ (be 1 ds.length ++ ds.flatMap (be 1))).drop 2 = ds.flatMap (be 1) := rfl
    simp [kindOf, payloadOf, requestOf, hdies, toNat_flatMap_byte hds, hp]
  | queryPage k v =>
    simp only [Request.wf, Bool.and_eq_true] at h
    have hsubject : isByte 0 = true := rfl
    show requestOf 43 (be 1 0 ++ (keyBytes k ++ be 1 v) ++ []) = _
    simp [-List.append_nil, requestOf, length_be, h, hsubject]
  | queryPlate p =>
    have hp : p.bytesOk = true := h
    have hsubject : isByte 1 = true := rfl
    show requestOf 43 (be 1 1 ++ plateBytes p ++ []) = _
    simp [-List.append_nil, requestOf, length_be, hp, hsubject]
  | queryImager i =>
    have hi : isByte i = true := h
    have hsubject : isByte 2 = true := rfl
    show requestOf 43 (be 1 2 ++ be 1 i ++ []) = _
    simp [-List.append_nil, requestOf, length_be, hi, hsubject]
  | queryLine => rfl
  | queryStore => rfl
  | _ =>
    simp only [Request.wf, Bool.and_eq_true] at h
    simp [-List.append_nil, kindOf, payloadOf, requestOf, length_be, h]

theorem kindOf_range (r : Request) : 16 ≤ kindOf r ∧ kindOf r ≤ 44 := by
  cases r <;> exact of_decide_eq_true rfl

theorem length_payloadOf_mapLoad (p : PlateId) (z c a : Nat) (ps : List PosArgs) :
    (payloadOf (.mapLoad p z c a ps)).length = 8 + 10 * ps.length := by
  simp only [payloadOf, List.length_append, length_plateBytes, length_be, length_flatMap_posArgsBytes]

theorem length_payloadOf_patternLoad (p : Nat) (ds : List Nat) :
    (payloadOf (.patternLoad p ds)).length = 2 + ds.length := by
  simp only [payloadOf, List.length_append, length_be, length_flatMap_byte]

/-- The payload of a request has the length that Table 10.7 gives its kind. -/
theorem payloadLength_payloadOf {r : Request} (h : r.wf = true) :
    payloadLength (kindOf r) (payloadOf r) = some (payloadOf r).length := by
  cases r with
  | mapLoad p z c a ps =>
    simp only [Request.wf, Bool.and_eq_true, and_assoc] at h
    obtain ⟨-, -, -, -, hlen, -⟩ := h
    have hcount : field (payloadOf (.mapLoad p z c a ps)) 7 1 = ps.length := by simp [payloadOf, length_be, hlen]
    rw [kindOf, payloadLength, hcount, length_payloadOf_mapLoad, if_pos (Nat.le_add_right _ _)]
  | patternLoad p ds =>
    simp only [Request.wf, Bool.and_eq_true, and_assoc] at h
    obtain ⟨-, hlen, -⟩ := h
    have hcount : field (payloadOf (.patternLoad p ds)) 1 1 = ds.length := by simp [payloadOf, length_be, hlen]
    rw [kindOf, payloadLength, hcount, length_payloadOf_patternLoad, if_pos (Nat.le_add_right _ _)]
  | pressSet p a b fs =>
    simp only [Request.wf, Bool.and_eq_true, and_assoc, decide_eq_true_eq] at h
    obtain ⟨-, -, -, hfour, -⟩ := h
    obtain ⟨f₀, f₁, f₂, f₃, rfl⟩ := List.length_eq_four.mp hfour
    rfl
  | _ => rfl

/-- The header of a frame has room for the length of every request's payload (R186). -/
theorem length_payloadOf_lt {r : Request} (h : r.wf = true) : (payloadOf r).length < 16777216 := by
  cases r with
  | mapLoad p z c a ps =>
    simp only [Request.wf, Bool.and_eq_true, and_assoc] at h
    obtain ⟨-, -, -, -, hlen, -⟩ := h
    have hcount : ps.length < 256 := of_decide_eq_true hlen
    rw [length_payloadOf_mapLoad]
    omega
  | patternLoad p ds =>
    simp only [Request.wf, Bool.and_eq_true, and_assoc] at h
    obtain ⟨-, hlen, -⟩ := h
    have hcount : ds.length < 256 := of_decide_eq_true hlen
    rw [length_payloadOf_patternLoad]
    omega
  | pressSet p a b fs =>
    simp only [Request.wf, Bool.and_eq_true, and_assoc, decide_eq_true_eq] at h
    obtain ⟨-, -, -, hfour, -⟩ := h
    obtain ⟨f₀, f₁, f₂, f₃, rfl⟩ := List.length_eq_four.mp hfour
    exact of_decide_eq_true rfl
  | _ => exact of_decide_eq_true rfl

end Sys2Proof.Machine
end


-- ==== Sys2Proof/Proofs/RequestFrames.lean ====
section
/-! PROOF. The frames of requests: how each downstream frame is judged, what joins the request queue and what is answered
at once, and a request command that does not find its request ready (chapter 10). -/

namespace Sys2Proof.Machine

/-! ### Replies made at once (R190, R191) -/

theorem Link.openPlaces_eq (l : Link) : l.openPlaces = if l.requests = [] then 16 else 15 := by
  simp only [Link.openPlaces, List.isEmpty_iff, Config.maxReplies]

theorem State.replyAtOnce_eq (tag kind : Nat) (c : Code) (s : State) :
    s.replyAtOnce tag kind c =
      if s.link.replies.length < (if s.link.requests = [] then 16 else 15) then
        { s with link := { s.link with replies := s.link.replies ++ [⟨tag, kind, c, []⟩] } }
      else { s with
        reports := s.reports.raise .link (.link ⟨.replyDropped, kind, tag, none, s.clock.time⟩) s.clock.time } := by
  rw [State.replyAtOnce, Link.openPlaces_eq]
  rfl

/-! ### Request frames (R190) -/

section
variable {kind tag : Nat} {payload : List Byte} {s : State}

theorem knownKind_iff (kind : Nat) : knownKind kind = true ↔ ¬ (kind < 16 ∨ 44 < kind) := by
  rw [knownKind, Bool.and_eq_true, decide_eq_true_eq, decide_eq_true_eq]
  omega

theorem State.requestArrives_unknown (h : kind < 16 ∨ 44 < kind) :
    s.requestArrives kind tag payload = s.replyAtOnce tag kind .unknown := by
  have hkind : (!knownKind kind) = true := by
    rw [Bool.not_eq_true', ← Bool.not_eq_true, knownKind_iff, not_not]
    exact h
  exact if_pos hkind

theorem State.requestArrives_known (h : ¬ (kind < 16 ∨ 44 < kind)) :
    s.requestArrives kind tag payload =
      if payloadLength kind payload ≠ some payload.length then s.replyAtOnce tag kind .range
      else if 8 ≤ s.link.requests.length then s.replyAtOnce tag kind .busy
      else { s with link := { s.link with requests := s.link.requests ++ [⟨tag, requestOf kind payload⟩] } } := by
  rw [State.requestArrives, (knownKind_iff kind).mpr h]
  rfl

end

/-! ### The judgment of a frame (R188) -/

theorem headerByte_eq (bs : List Byte) (n : Nat) :
    headerByte bs n = if h : n < bs.length then bs[n].toNat else 255 := by
  unfold headerByte
  split
  · rw [List.getElem?_eq_getElem ‹_›]
    rfl
  · rw [List.getElem?_eq_none (Nat.le_of_not_lt ‹_›)]
    rfl

section
variable {bs : List Byte} {s : State}

theorem isBadFrame_iff (bs : List Byte) : isBadFrame bs = true ↔
    (bs.length < 9 ∨ bs.length ≠ 9 + headerLength bs ∨ (field bs 0 1 = 1 ∧ headerLength bs < 2)) := by
  simp only [isBadFrame, Bool.or_eq_true, Bool.and_eq_true, decide_eq_true_eq, or_assoc]

/-- The check and the payload stand where the header says, in a frame of the right length. -/
theorem goodCheck_iff (h : bs.length = 9 + headerLength bs) : goodCheck bs = true ↔
    bs.drop (5 + headerLength bs) = checkBytes (bs.take (5 + headerLength bs)) := by
  have hend : bs.length - 4 = 5 + headerLength bs := by omega
  rw [goodCheck, decide_eq_true_eq, hend]

theorem framePayload_eq (h : bs.length = 9 + headerLength bs) : framePayload bs = (bs.drop 5).take (headerLength bs) := by
  rw [framePayload, h, Nat.add_sub_cancel_left]

theorem length_framePayload (h : bs.length = 9 + headerLength bs) : (framePayload bs).length = headerLength bs := by
  rw [framePayload_eq h, List.length_take, List.length_drop]
  omega

theorem State.frameArrives_badFrame (h : isBadFrame bs = true) :
    s.frameArrives bs = s.raise .link (discardedLink bs .badFrame s.now) := if_pos h

theorem State.frameArrives_badCheck (h : ¬ isBadFrame bs = true) (hcheck : ¬ goodCheck bs = true) :
    s.frameArrives bs = s.raise .link (discardedLink bs .badCheck s.now) := by
  rw [State.frameArrives, if_neg h, if_pos (by simpa using hcheck)]

theorem State.frameArrives_good (h : ¬ isBadFrame bs = true) (hcheck : goodCheck bs = true) (hkind : field bs 0 1 ≠ 1) :
    s.frameArrives bs = s.requestArrives (field bs 0 1) (field bs 1 1) (framePayload bs) := by
  rw [State.frameArrives, if_neg h, hcheck, if_neg (by decide), if_neg hkind]

theorem exec_downstreamFrame (h : s.resetAsserted = false) :
    exec (.downstreamFrame bs) s = .next (s.frameArrives bs).finish := taken_running _ s h

end

/-- Settles O12: the frame is judged in the order of R188 and R190. -/
theorem frameDiscardedOrAnsweredAtOnce : Obligations.FrameDiscardedOrAnsweredAtOnce := by
  intro bs s hrun size kind tag payload found link reply
  have hexec : ∀ t, s.frameArrives bs = t → exec (.downstreamFrame bs) s = .next t.finish := fun t ht => by
    rw [exec_downstreamFrame hrun, ht]
  have hlink : ∀ cause, (s.raise .link (discardedLink bs cause s.now)).finish = link cause := fun cause => by
    rw [discardedLink, headerByte_eq, headerByte_eq]
    rfl
  have hreply : ∀ c, (s.replyAtOnce tag kind c).finish = reply c := fun c => by rw [State.replyAtOnce_eq]
  by_cases hbad : bs.length < 9 ∨ bs.length ≠ 9 + size ∨ (kind = 1 ∧ size < 2)
  · rw [if_pos hbad, hexec _ (State.frameArrives_badFrame ((isBadFrame_iff bs).mpr hbad)), hlink]
  have hframe : ¬ isBadFrame bs = true := mt (isBadFrame_iff bs).mp hbad
  have hsize : bs.length = 9 + headerLength bs := by
    by_contra hne
    exact hbad (.inr (.inl hne))
  rw [if_neg hbad]
  by_cases hcheck : bs.drop (5 + size) ≠ checkBytes (bs.take (5 + size))
  · rw [if_pos hcheck, hexec _ (State.frameArrives_badCheck hframe (mt (goodCheck_iff hsize).mp hcheck)), hlink]
  have hgood : goodCheck bs = true := (goodCheck_iff hsize).mpr (not_not.mp hcheck)
  rw [if_neg hcheck]
  by_cases hband : kind = 1
  · rw [if_pos hband]
    trivial
  have hpayload : framePayload bs = payload := framePayload_eq hsize
  have hlength : payload.length = size := hpayload ▸ length_framePayload hsize
  have harrives : s.frameArrives bs = s.requestArrives kind tag payload :=
    hpayload ▸ State.frameArrives_good hframe hgood hband
  rw [if_neg hband]
  by_cases hunknown : kind < 16 ∨ 44 < kind
  · rw [if_pos hunknown, hexec _ (harrives.trans (State.requestArrives_unknown hunknown)), hreply]
  rw [if_neg hunknown, hexec _ (harrives.trans (State.requestArrives_known hunknown)), hlength]
  split_ifs
  · rw [hreply]
  · rw [hreply]
  · rfl

/-! ### The frame of a request (R186, R187) -/

theorem State.frameArrives_request {kind tag : Nat} {payload : List Byte} (s : State) (hkind : kind < 256)
    (hband : kind ≠ 1) (htag : tag < 256) (hlen : payload.length < 16777216) :
    s.frameArrives (frameBytes kind tag payload) = s.requestArrives kind tag payload := by
  have hheader := frame_headerLength kind tag payload hlen
  have hframe : ¬ isBadFrame (frameBytes kind tag payload) = true := by
    rw [isBadFrame_iff, length_frameBytes, hheader, frame_kind kind tag payload hkind]
    omega
  have hfield : field (frameBytes kind tag payload) 0 1 ≠ 1 := by rwa [frame_kind kind tag payload hkind]
  rw [State.frameArrives_good hframe (frame_goodCheck kind tag payload) hfield, frame_kind kind tag payload hkind,
    frame_tag kind tag payload htag, frame_payload]

/-- Settles O11: the frame is read back (`State.frameArrives_request`), and so is the request
(`requestOf_payloadOf`). -/
theorem requestFrameJoinsQueue : Obligations.RequestFrameJoinsQueue := by
  intro t s hwf htag hrun hroom
  obtain ⟨hlow, hhigh⟩ := kindOf_range t.request
  have harrives : s.frameArrives (requestFrame t) = s.requestArrives (kindOf t.request) t.tag (payloadOf t.request) :=
    s.frameArrives_request (by omega) (by omega) htag (length_payloadOf_lt hwf)
  rw [exec_downstreamFrame hrun, harrives, State.requestArrives_known (by omega),
    if_neg (not_not.mpr (payloadLength_payloadOf hwf)), if_neg (Nat.not_le_of_lt hroom), requestOf_payloadOf hwf]

/-! ### Requests that are not ready (R191, log 3) -/

section
variable {s : State} {t u : TaggedRequest} {us : List TaggedRequest} (f : State → Answer)

theorem State.handOn_other (hqueue : s.link.requests = u :: us) (hne : u ≠ t) : s.handOn t f = s := by
  rw [State.handOn, Link.handsOn, hqueue, if_neg (by simpa using hne)]

theorem State.handOn_headWaits (hqueue : s.link.requests = t :: us) (hfull : 16 ≤ s.link.replies.length) :
    s.handOn t f = s := by
  have hlist : ¬ s.link.replies.length < Config.maxReplies := Nat.not_lt_of_le hfull
  rw [State.handOn, hqueue, if_neg hlist]
  exact ite_self s

theorem State.handOn_joins (hqueue : s.link.requests = []) (hfull : 16 ≤ s.link.replies.length) :
    s.handOn t f = { s with link := { s.link with requests := [t] } } := by
  have hlist : ¬ s.link.replies.length < Config.maxReplies := Nat.not_lt_of_le hfull
  rw [State.handOn, Link.handsOn, hqueue, if_neg hlist]
  rfl

end

/-- Settles O10: the command hands its request on (`exec_request`), which finds another at the head or no room. -/
theorem requestWaitsForItsTurn : Obligations.RequestWaitsForItsTurn := by
  intro c t s hc hrun
  obtain ⟨a, ha, -, -⟩ := exec_request hc s
  have hexec : ∀ v, s.handOn t a = v → exec c s = .next v.finish := fun v hv => by
    rw [ha, request, taken_running _ s hrun, hv]
  exact ⟨fun u us hqueue hne => hexec s (State.handOn_other a hqueue hne),
    fun us hqueue hfull => hexec s (State.handOn_headWaits a hqueue hfull),
    fun hqueue hfull => hexec _ (State.handOn_joins a hqueue hfull)⟩

end Sys2Proof.Machine
end


-- ==== Sys2Proof/Proofs/UpstreamFrames.lean ====
section
/-! PROOF. The upstream lane and the Report Unit: the frame that is sent next, the report that is chosen, and what waits
(chapter 10). -/

namespace Sys2Proof.Machine

/-! ### The next frame (R197) -/

section
variable {s : State}

theorem exec_upstreamFrameEnd (hrun : s.resetAsserted = false) (howed : s.passOwed = false) :
    exec .upstreamFrameEnd s = .next s.laneFreed.pump := by
  have hfinish : s.laneFreed.finish = s.laneFreed.pump := State.finish_none _ howed
  rw [← hfinish]
  exact taken_running State.laneFreed s hrun

/-- On an idle lane with no reply, the lane stays idle when no report is chosen. -/
theorem State.pump_idle (hlane : s.link.lane = none) (hreplies : s.link.replies = [])
    (hchoose : s.reports.choose s.clock.time s.freeCount = none) : s.pump = s := by
  have hnone : s.reports.choose s.now s.freeCount = none := hchoose
  simp only [State.pump, hlane, hreplies, hnone]

/-- On an idle lane with no reply, the report that is chosen is sent. -/
theorem State.pump_report {p : Pick} {free : Nat} (hlane : s.link.lane = none) (hreplies : s.link.replies = [])
    (hchoose : s.reports.choose s.clock.time s.freeCount = some (p, free)) :
    s.pump = { s with
      link := { s.link with lane := some (s.reports.frame p) }, reports := s.reports.remove p, freeCount := free } := by
  have hsome : s.reports.choose s.now s.freeCount = some (p, free) := hchoose
  simp only [State.pump, hlane, hreplies, hsome]

end

theorem Reports.frame_event {r : Reports} {n : Nat} {e : EventReport} (h : r.events[n]? = some e) :
    r.frame (.event n) = ⟨129, r.seq,
      be 1 e.body.type ++ be 1 e.body.level ++ be 1 0 ++ be 4 e.time ++ e.body.bytes⟩ := by
  simp only [Reports.frame, h, reportPayload]

theorem Reports.frame_slot {r : Reports} {src : Source} {c : Condition} (h : r.slots.get src = some c) :
    r.frame (.slot src) = ⟨129, r.seq,
      be 1 src.type ++ be 1 src.level ++ be 1 c.repeats ++ be 4 c.latest ++ c.body.bytes⟩ := by
  simp only [Reports.frame, h, reportPayload]

/-! ### What waits (R195, R196) -/

theorem Reports.mem_eventCandidates {r : Reports} {now : Nat} {c : Candidate} : c ∈ r.eventCandidates now ↔
    ∃ n e, r.events[n]? = some e ∧ c = ⟨.event n, e.body.level, elapsed now e.time⟩ := by
  simp only [Reports.eventCandidates, List.mem_map, Prod.exists, List.mem_zipIdx_iff_getElem?]
  constructor
  · rintro ⟨e, n, he, rfl⟩
    exact ⟨n, e, he, rfl⟩
  · rintro ⟨n, e, he, rfl⟩
    exact ⟨e, n, he, rfl⟩

theorem Source.mem_all (src : Source) : src ∈ Source.all := by
  cases src <;> decide

theorem Reports.mem_slotCandidates {r : Reports} {now : Nat} {c : Candidate} : c ∈ r.slotCandidates now ↔
    ∃ src k, r.slots.get src = some k ∧ c = ⟨.slot src, src.level, elapsed now k.since⟩ := by
  simp only [Reports.slotCandidates, List.mem_filterMap, Option.map_eq_some_iff]
  constructor
  · rintro ⟨src, -, k, hk, rfl⟩
    exact ⟨src, k, hk, rfl⟩
  · rintro ⟨src, k, hk, rfl⟩
    exact ⟨src, src.mem_all, k, hk, rfl⟩

theorem Reports.mem_sendable {r : Reports} {now : Nat} {c : Candidate} :
    c ∈ r.sendable now ↔ c ∈ r.eventCandidates now ++ r.slotCandidates now ∧ r.mask ≤ c.level := by
  rw [Reports.sendable, List.mem_filter, decide_eq_true_eq]

/-! ### The choice (R197) -/

theorem Candidate.mem_foremost {cs : List Candidate} {c : Candidate} : c ∈ Candidate.foremost cs ↔
    c ∈ cs ∧ ∀ d ∈ cs, d.level < c.level ∨ (d.level = c.level ∧ d.age ≤ c.age) := by
  simp only [Candidate.foremost, List.mem_filter, List.all_eq_true, Bool.or_eq_true, Bool.and_eq_true, decide_eq_true_eq]

/-- Of candidates there is a foremost: one that is greatest by level, then by age. -/
theorem Candidate.exists_foremost {cs : List Candidate} (h : cs ≠ []) : ∃ c, c ∈ Candidate.foremost cs := by
  have hnonempty : cs.toFinset.Nonempty := by rwa [List.toFinset_nonempty_iff]
  obtain ⟨c, hc, hmax⟩ := cs.toFinset.exists_max_image (fun c => toLex (c.level, c.age)) hnonempty
  refine ⟨c, Candidate.mem_foremost.mpr ⟨List.mem_toFinset.mp hc, fun d hd => ?_⟩⟩
  exact Prod.Lex.le_iff.mp (hmax d (List.mem_toFinset.mpr hd))

theorem Reports.choose_none {r : Reports} {now free : Nat} (h : r.choose now free = none) : r.sendable now = [] := by
  by_contra hne
  obtain ⟨c, hc⟩ := Candidate.exists_foremost hne
  unfold Reports.choose at h
  split at h
  · rename_i hnil
    rw [hnil] at hc
    exact List.not_mem_nil hc
  · cases h
  · cases h

/-- The report chosen is foremost of the sendable ones, whatever the free value. -/
theorem Reports.choose_some {r : Reports} {now free k : Nat} {p : Pick} (h : r.choose now free = some (p, k)) :
    ∃ c ∈ Candidate.foremost (r.sendable now), c.pick = p := by
  unfold Reports.choose at h
  split at h
  · cases h
  · rename_i c hone
    cases h
    exact ⟨c, hone ▸ List.mem_singleton_self c, rfl⟩
  · rename_i c cs _ hmany
    cases h
    have hplace : Config.freePick free % (cs.length + 1) < (c :: cs).length := Nat.mod_lt _ (Nat.succ_pos _)
    refine ⟨_, ?_, rfl⟩
    rw [hmany, List.getD_eq_getElem _ _ hplace]
    exact List.getElem_mem hplace

/-! ### Conditions (R196) -/

theorem Condition.raised_eq (old : Option Condition) (content : ConditionBody) (now : Nat) :
    Condition.raised old content now = match old with
      | none => ⟨content, 0, now, now⟩
      | some c => ⟨content, if c.repeats < 255 then c.repeats + 1 else 255, c.since, now⟩ := by
  cases old with
  | none => rfl
  | some c =>
    have hcount : min (c.repeats + 1) 255 = if c.repeats < 255 then c.repeats + 1 else 255 := by
      split <;> omega
    simp only [Condition.raised, hcount]

/-- Settles O14: the frame by what waits on the idle lane, the choice by `Reports.choose_some` and `Reports.choose_none`,
a raise by the slot's rules. -/
theorem upstreamFrameEnds : Obligations.UpstreamFrameEnds := by
  refine ⟨fun s hrun howed => ?sent, fun r now free => ?chosen,
    fun r now c => ⟨Reports.mem_eventCandidates, Reports.mem_slotCandidates⟩, fun _ _ _ _ _ => rfl, rfl,
    fun r body now => ⟨r.offer_room body now, fun hfull => r.offer_full body now (Nat.not_lt_of_le hfull)⟩,
    fun r src other content now => ⟨rfl, rfl, rfl, ?_, ?_⟩⟩
  case sent =>
    rw [exec_upstreamFrameEnd hrun howed]
    refine ⟨fun r rs hreplies => ?_, fun hreplies hchoose => ?_, fun n e free hreplies hchoose he => ?_,
      fun src c free hreplies hchoose hc => ?_⟩
    · rw [State.pump_reply s.laneFreed r rs rfl hreplies]
      rfl
    · rw [State.pump_idle (s := s.laneFreed) rfl hreplies hchoose]
      rfl
    · rw [State.pump_report (s := s.laneFreed) rfl hreplies hchoose, Reports.frame_event (r := s.laneFreed.reports) he]
      rfl
    · rw [State.pump_report (s := s.laneFreed) rfl hreplies hchoose, Reports.frame_slot (r := s.laneFreed.reports) hc]
      rfl
  case chosen =>
    intro waiting
    cases hchoose : r.choose now free with
    | none =>
      refine fun d hd => Nat.lt_of_not_le fun hmask => ?_
      have hsendable : d ∈ r.sendable now := Reports.mem_sendable.mpr ⟨hd, hmask⟩
      rw [Reports.choose_none hchoose] at hsendable
      exact List.not_mem_nil hsendable
    | some pick =>
      obtain ⟨c, hc, hpick⟩ := Reports.choose_some hchoose
      obtain ⟨hsendable, hforemost⟩ := Candidate.mem_foremost.mp hc
      obtain ⟨hwaits, hmask⟩ := Reports.mem_sendable.mp hsendable
      exact ⟨c, hwaits, hpick, hmask, fun d hd hlevel => hforemost d (Reports.mem_sendable.mpr ⟨hd, hlevel⟩)⟩
  · exact fun hne => Slots.get_set_other _ _ _ _ hne
  · exact (r.raise_slot src content now).trans (congrArg some (Condition.raised_eq _ content now))

end Sys2Proof.Machine
end


-- ==== Sys2Proof/Proofs/CommandSteps.lean ====
section
/-! PROOF. The block with commands waiting: the front of the queue is taken. With none waiting see IdleSteps. -/

namespace Sys2Proof.Machine

/-- Settles O1: on a queue that is not empty, `step` takes the branch of the front command. -/
theorem stepTakesFrontCommand : Obligations.StepTakesFrontCommand := by
  intro c cs s hqueue
  rw [step, hqueue]

end Sys2Proof.Machine
end
